-- ==== Sys2Proof/Word.lean ====
section
/-! DEFINITION. The data types every layer shares: bytes of the management line, port numbers and ceiling-port numbers. -/

namespace Sys2Proof

/-- One byte of the cabinet management line (R153). -/
abbrev Byte := BitVec 8

/-- A port. The spec numbers ports 1 to 56; the value here is the number less one, so that no other port exists (R2). -/
abbrev Port := Fin 56

/-- A CEILING port C1 to C8, that is port 49 to 56; the value is the C number less one (R2). -/
abbrev Ceiling := Fin 8

/-- A port priority: 0 CRITICAL, 1 HIGH, 2 NORMAL, 3 LOW (Conventions; R14). -/
abbrev Priority := Fin 4

/-- A window of the window table; 0 is the default budget's window (R62). -/
abbrev WindowIndex := Fin 5

end Sys2Proof
end

