-- ==== Sys2Proof/Syntax.lean ====
section
/-! DEFINITION. The commands: one constructor of `Instr` for each row of spec/opcode_table.json, with their operands. -/

namespace Sys2Proof

/-- Whom a good request frame is addressed to: this unit's own address, or address 0 (R157). -/
inductive Dest where
  | own
  | broadcast
  deriving DecidableEq, Repr

/-- The levels of the strap pins: ADDR 0 to 31, AUTO 0 to 3, BAUD high or low (section 10.1). -/
structure Straps where
  addr : Fin 32
  auto : Fin 4
  baud : Bool
  deriving DecidableEq, Repr

/-- The levels of the pins that the supply's return finds: the straps, and RST high or low (R166, R167). -/
structure Pins where
  straps : Straps
  rstHigh : Bool
  deriving DecidableEq, Repr

/-- The answer of a front end to a probe (R22). -/
inductive Detection where
  | valid
  | opened
  | invalid
  | short
  deriving DecidableEq, Repr

/-- A temperature sample: a value in whole degrees Celsius, or a sensor fault report (R78). -/
inductive TempSample where
  | reading (celsius : Int)
  | faultReport
  deriving DecidableEq, Repr

/-- The two faults of a byte on which a frame being collected is discarded at once (R154). -/
inductive FrameFault where
  | lengthAbove200
  | framingError
  deriving DecidableEq, Repr

/-- The level of a link-sense input: low while the cabinet switch sees the link up (section 8.1). -/
inductive LinkLevel where
  | low
  | high
  deriving DecidableEq, Repr

/-- The seventeen request kinds (section 9.6); ENABLE, DISABLE, CLEAR and RECYCLE are the four commands of Port Command. -/
inductive RequestKind where
  | identify
  | commission
  | restart
  | setPort
  | setGrades
  | setTiming
  | setSupply
  | setWindow
  | selectProfile
  | portCommand
  | shedTo
  | readPort
  | readLedger
  | readQueue
  | readStack
  | readGap
  | takeNotices
  deriving DecidableEq, Repr

/-- The part's commands. A request row carries its destination and its body bytes (R174); the four Port Command rows carry the
port byte and whatever follows the command byte, so that a body of the wrong length can be written. -/
inductive Instr where
  | identify (d : Dest) (body : List Byte)
  | commission (d : Dest) (body : List Byte)
  | restart (d : Dest) (body : List Byte)
  | setPort (d : Dest) (body : List Byte)
  | setGrades (d : Dest) (body : List Byte)
  | setTiming (d : Dest) (body : List Byte)
  | setSupply (d : Dest) (body : List Byte)
  | setWindow (d : Dest) (body : List Byte)
  | selectProfile (d : Dest) (body : List Byte)
  | enable (d : Dest) (port : Byte) (extra : List Byte)
  | disable (d : Dest) (port : Byte) (extra : List Byte)
  | clear (d : Dest) (port : Byte) (extra : List Byte)
  | recycle (d : Dest) (port : Byte) (extra : List Byte)
  | shedTo (d : Dest) (body : List Byte)
  | readPort (d : Dest) (body : List Byte)
  | readLedger (d : Dest) (body : List Byte)
  | readQueue (d : Dest) (body : List Byte)
  | readStack (d : Dest) (body : List Byte)
  | readGap (d : Dest) (body : List Byte)
  | takeNotices (d : Dest) (body : List Byte)
  | unknownKindRequest (kind : Byte) (body : List Byte)
  | crcMismatch (addr kind : Byte) (body : List Byte) (crc : BitVec 16)
  | frameFaultDiscard (fault : FrameFault)
  | byteGapExpiry
  | replySent
  | supplyFail
  | supplyGood (pins : Pins)
  | rstLow
  | rstHigh (pins : Straps)
  | autonomyExpiry
  | voltageSample (decivolts : Nat)
  | settleExpiry
  | linePresentSample (present : Bool)
  | rideLimitExpiry
  | recoveryExpiry
  | temperatureSample (sample : TempSample)
  | holdExpiry (depth : Fin 6)
  | detectionResult (p : Port) (result : Detection)
  | detectionExpiry (p : Port)
  | gradeResult (p : Port) (grade : Fin 8)
  | classifyLimitExpiry (p : Port)
  | presenceLost (p : Port)
  | rampComplete (p : Port)
  | short (p : Port)
  | inrushLimitExpiry (p : Port)
  | forgivenessExpiry (p : Port)
  | holdoffExpiry (p : Port)
  | overcurrentBegin (p : Port)
  | overcurrentEnd (p : Port)
  | toleranceExpiry (p : Port)
  | overload (p : Port)
  | linkSenseSample (c : Ceiling) (level : LinkLevel)
  | linkCountdownExpiry (c : Ceiling)
  | stableExpiry (c : Ceiling)
  | offTimeExpiry (c : Ceiling)
  | lineByte (b : Byte) (framingError : Bool)
  | goodFrameIgnored (addr kind : Byte) (body : List Byte)
  deriving DecidableEq, Repr

end Sys2Proof
end

