-- ==== Sys2Proof/Decode.lean ====
section
/-! DEFINITION. The reading of a command from a word. spec/opcode_table.json gives no row any bits (every "fields" is empty and no row has
"fixed"), so no word spells a command. The bytes of a request on the management line are read by the receiver
(Machine/Receiver.lean), not here. -/

namespace Sys2Proof

/-- The command that a word spells by the table's bits: none, since the table gives no row bits. -/
def decodeTableWord (_nbits _w : Nat) : Option Instr := none

end Sys2Proof
end

