-- ==== Sys2Proof/Config.lean ====
section
/-! DEFINITION. What is fixed for the part, and the two free values of what the spec leaves open. -/

namespace Sys2Proof

/-- The part code that Identify reports (R161). -/
def Config.partCode : Nat := 5608

/-- The revision code of the parts the manual describes (R161). -/
def Config.revision : Nat := 1

/-- The classification limit, fixed and not a timing setting (R26). -/
def Config.classificationLimit : Nat := 50

/-- The byte-gap countdown of the receiver, in milliseconds (R154). -/
def Config.byteGap : Nat := 5

/-- The longest body of a frame (R154, section 9.2). -/
def Config.maxBody : Nat := 200

/-- The places of the notice queue, shared by its two classes (R162). -/
def Config.noticePlaces : Nat := 48

/-- The most records the shed stack holds (R123). -/
def Config.stackPlaces : Nat := 6

/-- DESIGN CHOICE, log entry 2: a free value. Which of several events due in the same millisecond is taken first; the spec gives
the outcome of each order and names no order. No body, so no proof can rest on one order. -/
opaque Config.eventChoice : Nat → Nat

/-- DESIGN CHOICE, log entry 3: a free value. Whether a waiting reply begins at this tick; R159 bounds the moment to 1 to 10 ms
and says no more. -/
opaque Config.replyBegins : Nat → Bool

end Sys2Proof
end

