-- ==== Sys2Proof/Machine/Frame.lean ====
section
/-! DEFINITION. The bytes of frames: kind codes, little-endian fields, the CRC, and a frame's bytes in the order sent (chapter 9.2, chapter 11). -/

namespace Sys2Proof.Machine

/-- The kind code of a request (section 11.1). -/
def kindCode : RequestKind → Byte
  | .identify => 0x01
  | .commission => 0x02
  | .restart => 0x03
  | .setPort => 0x10
  | .setGrades => 0x11
  | .setTiming => 0x12
  | .setSupply => 0x13
  | .setWindow => 0x14
  | .selectProfile => 0x15
  | .portCommand => 0x20
  | .shedTo => 0x21
  | .readPort => 0x30
  | .readLedger => 0x31
  | .readQueue => 0x32
  | .readStack => 0x33
  | .readGap => 0x34
  | .takeNotices => 0x35

/-- The request a kind code names, or none for an unknown kind (R158). -/
def kindOfCode (b : Byte) : Option RequestKind :=
  [.identify, .commission, .restart, .setPort, .setGrades, .setTiming, .setSupply, .setWindow, .selectProfile,
    .portCommand, .shedTo, .readPort, .readLedger, .readQueue, .readStack, .readGap, .takeNotices].find?
    (fun k => kindCode k == b)

/-- The broadcast-capable kinds (R157). -/
def broadcastCapable : RequestKind → Bool
  | .commission => true
  | .restart => true
  | .selectProfile => true
  | .shedTo => true
  | _ => false

/-- The command byte of each Port Command (section 11.1). -/
def commandEnable : Byte := 1
@[inherit_doc commandEnable] def commandDisable : Byte := 2
@[inherit_doc commandEnable] def commandClear : Byte := 3
@[inherit_doc commandEnable] def commandRecycle : Byte := 4

/-- The low byte of a number. -/
def byteOf (n : Nat) : Byte := BitVec.ofNat 8 n

/-- A 16-bit field, least significant byte first (Conventions, Line fields). -/
def field16 (n : Nat) : List Byte := [byteOf n, byteOf (n / 256)]

/-- A 24-bit field, least significant byte first. -/
def field24 (n : Nat) : List Byte := [byteOf n, byteOf (n / 256), byteOf (n / 65536)]

/-- A 32-bit field, least significant byte first. -/
def field32 (w : BitVec 32) : List Byte :=
  [byteOf w.toNat, byteOf (w.toNat / 256), byteOf (w.toNat / 65536), byteOf (w.toNat / 16777216)]

/-- The byte of a body at an offset, as a number; 0 past the end, which no accepted body reads. -/
def byteAt (body : List Byte) (at_ : Nat) : Nat := (body.getD at_ 0).toNat

/-- The 16-bit field of a body at an offset (R174). -/
def read16 (body : List Byte) (at_ : Nat) : Nat := byteAt body at_ + 256 * byteAt body (at_ + 1)

/-- The 24-bit field of a body at an offset (R174). -/
def read24 (body : List Byte) (at_ : Nat) : Nat :=
  byteAt body at_ + 256 * byteAt body (at_ + 1) + 65536 * byteAt body (at_ + 2)

/-- One byte's eight shifts of the CRC register, generator 0x1021, most significant bit first (R155). -/
def crcShift : Nat → BitVec 16 → BitVec 16
  | 0, r => r
  | n + 1, r => crcShift n (if r.msb then (r.shiftLeft 1) ^^^ 0x1021#16 else r.shiftLeft 1)

/-- The CRC register after one more byte (R155). -/
def crcByte (r : BitVec 16) (b : Byte) : BitVec 16 :=
  let w : BitVec 16 := b.setWidth 16
  crcShift 8 (r ^^^ w.shiftLeft 8)

/-- The CRC-16 of a run of bytes: start 0xFFFF, no reflection, no final value (R155). -/
def crc16 (bytes : List Byte) : BitVec 16 := bytes.foldl crcByte 0xFFFF#16

/-- The bytes a frame's CRC covers: address, kind, length and body (R155). -/
def frameCore (addr kind : Byte) (body : List Byte) : List Byte :=
  addr :: kind :: byteOf body.length :: body

/-- A frame's bytes after SYNC with a given CRC, the CRC low byte first (section 9.2). -/
def frameAfterSync (addr kind : Byte) (body : List Byte) (crc : BitVec 16) : List Byte :=
  frameCore addr kind body ++ field16 crc.toNat

/-- The SYNC byte that begins every frame (section 9.2). -/
def syncByte : Byte := 0xA5

end Sys2Proof.Machine
end

