-- ==== Sys2Proof/Machine/State.lean ====
section
/-! DEFINITION. The state of the part as plain data, grouped by the block that owns it (00_scope, Block overview), and the state right after reset. -/

namespace Sys2Proof.Machine

/-- The faults a step can stop with: none. The spec describes no event that stops the part (log entry 16, safe). -/
inductive Fault where
  deriving DecidableEq, Repr

/-- The refusals a step can answer. -/
inductive Refusal where
  /-- Raised by `exec` for a command that has no meaning yet (safe: the run stops). No arm answers it now. -/
  | notModelled (mnemonic : String)
  deriving DecidableEq, Repr

/-- The eleven port states (section 2.1). -/
inductive PortState where
  | dormant
  | disabled
  | search
  | classify
  | queued
  | inrush
  | on
  | recycle
  | shed
  | faultHold
  | lockout
  deriving DecidableEq, Repr

/-- The two phases of RECYCLE (R4). -/
inductive RecyclePhase where
  | offTime
  | waitSlot
  deriving DecidableEq, Repr

/-- The causes of a fault hold (R34). -/
inductive FaultCause where
  | short
  | overload
  | inrushTimeout
  | gradeInvalid
  deriving DecidableEq, Repr

/-- The causes of LOCKOUT (R8). -/
inductive LockoutCause where
  | faultLimit
  | recycleLimit
  deriving DecidableEq, Repr

/-- The operation a port waits for its front end to answer (R21). -/
inductive Operation where
  | none
  | probe
  | grade
  deriving DecidableEq, Repr

/-- The power switch of a front end as the part last commanded it, or as the front end opened it (R22). -/
inductive Switch where
  | off
  | ramping
  | on
  deriving DecidableEq, Repr

/-- The supervision states of the Overcurrent Monitor (section 3.2). -/
inductive Supervision where
  | unsupervised
  | watching
  | timing
  | tripped
  deriving DecidableEq, Repr

/-- The link state of a CEILING port (R11). -/
inductive LinkState where
  | down
  | up
  deriving DecidableEq, Repr

/-- A countdown on the 1 ms timebase (R1): not loaded, loaded with so many ticks before its last millisecond, or come due and not
yet taken (log entry 19). -/
inductive Countdown where
  | idle
  | running (ms : Nat)
  | due
  deriving DecidableEq, Repr

/-- The kinds of a grant-queue entry (R106). -/
inductive EntryKind where
  | ordinary
  | marked
  | reserved
  deriving DecidableEq, Repr

/-- The causes of a shed record (R100, R124). -/
inductive ShedCause where
  | window
  | gapRide
  | gapExtended
  | derate
  | imposed
  | setting
  deriving DecidableEq, Repr

/-- The supply states (section 4.5). -/
inductive SupplyState where
  | present
  | gapRide
  | gapExtended
  | recovery
  deriving DecidableEq, Repr

/-- Which of the two gap caps RECOVERY holds (R73). -/
inductive CapKind where
  | ride
  | extended
  deriving DecidableEq, Repr

/-- The unit states (section 10.3). -/
inductive UnitState where
  | held
  | running
  deriving DecidableEq, Repr

/-- The three kinds of reset (R167). -/
inductive ResetCause where
  | power
  | pin
  | restart
  deriving DecidableEq, Repr

/-- The three conditions of the line receiver (R154). -/
inductive ReceiverState where
  | hunting
  | collecting
  | closed
  deriving DecidableEq, Repr

/-- The four settings a profile holds for one port (section 1.4). -/
structure PortSettings where
  admin : Bool
  priority : Priority
  cap : Nat
  loss : Nat
  deriving DecidableEq, Repr

/-- The fourteen timing settings in the order of section 2.12; the units are the table's. -/
structure Timing where
  detectionInterval : Nat
  inrushLimit : Nat
  faultHoldoff : Nat
  faultLimit : Nat
  forgivenessTime : Nat
  overcurrentTolerance : Nat
  excursionThreshold : Nat
  recycleWait : Nat
  recycleOffTime : Nat
  recycleLimit : Nat
  linkStableTime : Nat
  linkSamplePeriod : Nat
  inrushSlots : Nat
  passLimit : Nat
  deriving DecidableEq, Repr

/-- The ten supply settings in the order of R80; the units are those of sections 4.9 and 5.2. -/
structure SupplySettings where
  settleTime : Nat
  rideCap : Nat
  extendedCap : Nat
  rideLimit : Nat
  recoveryDelay : Nat
  guardBand : Nat
  derateStart : Nat
  derateSlope : Nat
  restoreHysteresis : Nat
  restoreHold : Nat
  deriving DecidableEq, Repr

/-- One of windows 1 to 4 (R62). -/
structure Window where
  enabled : Bool
  low : Nat
  high : Nat
  budget : Nat
  deriving DecidableEq, Repr

/-- The Settings Store (00_scope, Block overview). -/
structure Settings where
  grades : Vector Nat 7
  profiles : Vector (Vector PortSettings 56) 2
  inForce : Fin 2
  timing : Timing
  supply : SupplySettings
  windows : Vector Window 4
  defaultBudget : Nat
  deriving DecidableEq, Repr

/-- The overcurrent excursion being timed: the moment of its begin on the timebase and the tolerance then loaded (R50). -/
structure Excursion where
  start : Nat
  tolerance : Nat
  deriving DecidableEq, Repr

/-- One port: its record (section 1.2), the Sequencer's countdown and outstanding operation (R21), what its front end was last
commanded (R22), and the Overcurrent Monitor's state for it (section 3.2). -/
structure PortRecord where
  state : PortState
  recyclePhase : Option RecyclePhase
  grade : Option (Fin 7)
  allocation : Option Nat
  capped : Bool
  mark : Option Nat
  faultCount : Nat
  lastFault : Option FaultCause
  lockoutCause : Option LockoutCause
  shortSeen : Bool
  excursionCount : Nat
  peakExcursion : Nat
  countdown : Countdown
  operation : Operation
  switch : Switch
  currentLimit : Option Nat
  supervision : Supervision
  tolerance : Countdown
  excursion : Option Excursion
  deriving DecidableEq, Repr

/-- Link Sense and Recovery's state for one CEILING port (R141); `sinceSample` is the age of the latest sample (R142). -/
structure CeilingRecord where
  linkState : LinkState
  filterRun : Nat
  linkCountdown : Countdown
  stableCountdown : Countdown
  active : Bool
  recycleCount : Nat
  sinceSample : Nat
  deriving DecidableEq, Repr

/-- The gap measurement while it runs (R75). -/
structure GapMeasurement where
  start : Nat
  lowest : Option Nat
  shed : Nat
  extended : Bool
  deriving DecidableEq, Repr

/-- The gap capture (R76). -/
structure GapCapture where
  duration : Nat
  lowest : Nat
  shed : Nat
  extended : Bool
  deriving DecidableEq, Repr

/-- The Supply Monitor (R60). The disturbed flag is computed from the supply state (`State.disturbed`). -/
structure SupplyMonitor where
  activeWindow : Option WindowIndex
  candidate : Option WindowIndex
  settle : Countdown
  latestVoltage : Option Nat
  linePresent : Bool
  lineRun : Nat
  state : SupplyState
  recoveryCap : Option CapKind
  rideLimit : Countdown
  recovery : Countdown
  measurement : Option GapMeasurement
  capture : Option GapCapture
  gapsSinceRead : Nat
  temperature : Int
  sensorFaultRun : Bool
  deriving DecidableEq, Repr

/-- The Budget Ledger's held figures, imposed cap and commit list, oldest grant first (R83). -/
structure Ledger where
  supplyBudget : Nat
  derate : Nat
  available : Nat
  imposedCap : Option Nat
  commitList : List Port
  deriving DecidableEq, Repr

/-- One entry of a shed record: a port and its allocation at shed (R124). -/
structure ShedEntry where
  port : Port
  allocation : Nat
  deriving DecidableEq, Repr

/-- A shed record (R124). Its hold is the restore hold's countdown; a hold that is not loaded has expired (R131). -/
structure ShedRecord where
  cause : ShedCause
  merged : Bool
  hold : Countdown
  entries : List ShedEntry
  deriving DecidableEq, Repr

/-- An entry of the grant queue (R106); the join order is held as the join rank. -/
structure QueueEntry where
  port : Port
  priority : Priority
  kind : EntryKind
  joinRank : Nat
  passCount : Nat
  deriving DecidableEq, Repr

/-- What a notice says, one constructor for each kind of section 9.7, with its port and values. -/
inductive NoticeBody where
  | resetDone (cause : ResetCause)
  | autonomousStart (seconds : Nat)
  | portFault (p : Port) (cause : FaultCause) (count : Nat)
  | portLockout (p : Port) (cause : LockoutCause)
  | shed (cause : ShedCause) (ports total : Nat)
  | windowChange (window : WindowIndex) (budget : Nat) (fell : Bool)
  | gapBegin (voltage : Nat)
  | rideLimit (duration : Nat)
  | sensorFaultReported
  | sensorOutOfRange (value : Int)
  | deviceFound (p : Port) (grade : Fin 7)
  | deviceGone (p : Port) (left : PortState) (released : Nat)
  | portShortSeen (p : Port)
  | restored (ports total : Nat)
  | gapEnd (lowest duration : Nat)
  | excursions (p : Port) (raised peak : Nat)
  | linkChange (c : Ceiling) (state : LinkState)
  | recycled (c : Ceiling) (count : Nat) (forced : Bool)
  deriving DecidableEq, Repr

/-- A notice: its contents and the unit clock when it was posted (section 9.7). -/
structure Notice where
  body : NoticeBody
  stamp : BitVec 32
  deriving DecidableEq, Repr

/-- The notice queue, each class oldest first, with the overflow flag (R162). -/
structure NoticeQueue where
  urgent : List Notice
  routine : List Notice
  overflow : Bool
  deriving DecidableEq, Repr

/-- The reply buffer's reply: the kind it answers and its body, status byte first (R158, R159). -/
structure Reply where
  kind : Byte
  body : List Byte
  deriving DecidableEq, Repr

/-- The Management Line Interface but for the notice queue (R153 to R159). The frame buffer holds the bytes after SYNC of the
frame being collected. `replyAge` counts the ticks of a reply that has not begun (log entry 3). -/
structure Line where
  receiver : ReceiverState
  buffer : List Byte
  byteGap : Countdown
  errorCount : Nat
  reply : Option Reply
  replyAge : Nat
  driver : Bool
  restartPending : Bool
  deriving DecidableEq, Repr

/-- The Start-Up Controller, with the supply and RST conditions that resets wait on (R166 to R169). `inReset` holds the kind of
reset begun last while a reset is in progress; `rstHigh` is the level of RST as the resets wait on it, and `rstRecognised` says that a
low has lasted 1 ms (log entry 9). -/
structure StartUp where
  straps : Straps
  unitState : UnitState
  autonomy : Countdown
  resetCause : ResetCause
  inReset : Option ResetCause
  supplyGood : Bool
  rstHigh : Bool
  rstRecognised : Bool
  deriving DecidableEq, Repr

/-- The whole state of the part. `now` is the 1 ms timebase's count since the end of the last reset (R1); `free` counts the free
values used (log entry 2); `pending` is the queue of waiting commands. -/
structure State where
  settings : Settings
  ports : Vector PortRecord 56
  ceilings : Vector CeilingRecord 8
  supply : SupplyMonitor
  ledger : Ledger
  stack : List ShedRecord
  queue : List QueueEntry
  line : Line
  notices : NoticeQueue
  unit : StartUp
  now : Nat
  free : Nat
  pending : List Instr
  deriving DecidableEq, Repr

/-! ### Reset values -/

/-- A profile with one setting for the SEAT ports 1 to 48 and one for the CEILING ports 49 to 56. -/
def profileOf (seat ceiling : PortSettings) : Vector PortSettings 56 :=
  Vector.replicate 48 seat ++ Vector.replicate 8 ceiling

/-- The built-in settings (R13, R14, R44, R62, R80, R87). -/
def Settings.builtIn : Settings where
  grades := #v[13000, 3500, 6500, 13000, 25500, 40000, 51000]
  profiles := #v[profileOf ⟨true, 2, 70000, 40⟩ ⟨true, 1, 70000, 40⟩,
    profileOf ⟨false, 3, 70000, 40⟩ ⟨true, 1, 70000, 40⟩]
  inForce := 0
  timing :=
    { detectionInterval := 500, inrushLimit := 75, faultHoldoff := 5, faultLimit := 4, forgivenessTime := 120
      overcurrentTolerance := 50, excursionThreshold := 16, recycleWait := 30, recycleOffTime := 5
      recycleLimit := 3, linkStableTime := 600, linkSamplePeriod := 4, inrushSlots := 2, passLimit := 4 }
  supply :=
    { settleTime := 500, rideCap := 300000, extendedCap := 100000, rideLimit := 60, recoveryDelay := 1000
      guardBand := 20000, derateStart := 55, derateSlope := 5000, restoreHysteresis := 10000, restoreHold := 2 }
  windows := #v[⟨true, 960, 1380, 900000⟩, ⟨true, 770, 960, 500000⟩, ⟨false, 0, 0, 0⟩, ⟨false, 0, 0, 0⟩]
  defaultBudget := 0

/-- A port record at its reset values (R3, R21, R48). -/
def PortRecord.atReset : PortRecord where
  state := .dormant
  recyclePhase := none
  grade := none
  allocation := none
  capped := false
  mark := none
  faultCount := 0
  lastFault := none
  lockoutCause := none
  shortSeen := false
  excursionCount := 0
  peakExcursion := 0
  countdown := .idle
  operation := .none
  switch := .off
  currentLimit := none
  supervision := .unsupervised
  tolerance := .idle
  excursion := none

/-- A ceiling port's link state at reset (R141). -/
def CeilingRecord.atReset : CeilingRecord where
  linkState := .down
  filterRun := 0
  linkCountdown := .idle
  stableCountdown := .idle
  active := false
  recycleCount := 0
  sinceSample := 0

/-- The Supply Monitor at reset (R60). -/
def SupplyMonitor.atReset : SupplyMonitor where
  activeWindow := none
  candidate := none
  settle := .idle
  latestVoltage := none
  linePresent := true
  lineRun := 0
  state := .present
  recoveryCap := none
  rideLimit := .idle
  recovery := .idle
  measurement := none
  capture := none
  gapsSinceRead := 0
  temperature := 125
  sensorFaultRun := false

/-- The Budget Ledger at reset: the figures computed from the reset inputs, D = 5000 × (125 − 55) (R83). -/
def Ledger.atReset : Ledger where
  supplyBudget := 0
  derate := 350000
  available := 0
  imposedCap := none
  commitList := []

/-- The Management Line Interface at reset: hunting with the buffer empty, the driver disabled (R153, R154, R156). -/
def Line.atReset : Line where
  receiver := .hunting
  buffer := []
  byteGap := .idle
  errorCount := 0
  reply := none
  replyAge := 0
  driver := false
  restartPending := false

/-- DESIGN CHOICE, log entry 6: the strap levels of the reset state, every pin low. The spec gives the straps no reset value. -/
def Straps.allLow : Straps := ⟨0, 0, false⟩

/-- Every block at its reset values, with an empty notice queue, around a given Start-Up Controller (R168 step 1). -/
def State.blank (unit : StartUp) (free : Nat) (pending : List Instr) : State where
  settings := Settings.builtIn
  ports := Vector.replicate 56 PortRecord.atReset
  ceilings := Vector.replicate 8 CeilingRecord.atReset
  supply := SupplyMonitor.atReset
  ledger := Ledger.atReset
  stack := []
  queue := []
  line := Line.atReset
  notices := ⟨[], [], false⟩
  unit := unit
  now := 0
  free := free
  pending := pending

/-- The part right after reset (R168): every block at its reset values, HELD, and RESET_DONE in the notice queue. DESIGN CHOICE, log
entries 6 and 7: the reset was a power-on reset with every strap pin low. -/
def State.reset : State :=
  { State.blank
      { straps := Straps.allLow, unitState := .held, autonomy := .idle, resetCause := .power
        inReset := none, supplyGood := true, rstHigh := true, rstRecognised := false } 0 [] with
    notices := ⟨[⟨.resetDone .power, 0⟩], [], false⟩ }

end Sys2Proof.Machine
end

