-- ==== Sys2Proof/Machine/Flags.lean ====
section
/-! DEFINITION. The flags and codes that the part computes from its state: the disturbed flag, ATTN, a hold's expiry, the status of an answer, and
the codes of enumerated fields (section 11.1). -/

namespace Sys2Proof.Machine

/-- The disturbed flag: set in every supply state other than PRESENT (section 4.6, R56). -/
def State.disturbed (s : State) : Bool := s.supply.state != .present

/-- The notices held, both classes together (R162). -/
def NoticeQueue.count (q : NoticeQueue) : Nat := q.urgent.length + q.routine.length

/-- ATTN is pulled low while a notice is held or the overflow flag is set, and released throughout a reset (R164). -/
def State.attnLow (s : State) : Bool :=
  s.unit.inReset.isNone && (s.notices.count != 0 || s.notices.overflow)

/-- A record's hold has expired when its countdown is not loaded (R131). -/
def ShedRecord.holdExpired (r : ShedRecord) : Bool := r.hold == .idle

/-- The status codes (section 9.5). -/
inductive Status where
  | done
  | doneClamped
  | badFrame
  | badPort
  | badIndex
  | badField
  | wrongState
  | notCeiling
  | held
  deriving DecidableEq, Repr

/-- A status's byte (section 11.1). -/
def statusCode : Status → Byte
  | .done => 0x00
  | .doneClamped => 0x01
  | .badFrame => 0x10
  | .badPort => 0x11
  | .badIndex => 0x12
  | .badField => 0x13
  | .wrongState => 0x20
  | .notCeiling => 0x21
  | .held => 0x22

/-- DONE_CLAMPED if a numeric value was changed before it was used, DONE otherwise (R160). -/
def acceptedStatus (changed : Bool) : Status := if changed then .doneClamped else .done

/-- The port state codes (section 11.1). -/
def stateCode : PortState → Nat
  | .dormant => 0
  | .disabled => 1
  | .search => 2
  | .classify => 3
  | .queued => 4
  | .inrush => 5
  | .on => 6
  | .recycle => 7
  | .shed => 8
  | .faultHold => 9
  | .lockout => 10

/-- The eleven port states in code order (section 11.1). -/
def allPortStates : List PortState :=
  [.dormant, .disabled, .search, .classify, .queued, .inrush, .on, .recycle, .shed, .faultHold, .lockout]

/-- A flag's byte or number: 0 no, 1 yes (section 11.1). -/
def flagCode (b : Bool) : Nat := if b then 1 else 0

/-- The recycle phase codes, 0 when absent (section 11.1). -/
def phaseCode : Option RecyclePhase → Nat
  | none => 0
  | some .offTime => 1
  | some .waitSlot => 2

/-- The fault cause codes (section 11.1). -/
def faultCode : FaultCause → Nat
  | .short => 1
  | .overload => 2
  | .inrushTimeout => 3
  | .gradeInvalid => 4

/-- The lockout cause codes (section 11.1). -/
def lockoutCode : LockoutCause → Nat
  | .faultLimit => 1
  | .recycleLimit => 2

/-- The link state codes (section 11.1). -/
def linkCode : LinkState → Nat
  | .down => 0
  | .up => 1

/-- The queue entry kind codes (section 11.1). -/
def entryKindCode : EntryKind → Nat
  | .ordinary => 0
  | .marked => 1
  | .reserved => 2

/-- The shed cause codes (section 11.1). -/
def shedCauseCode : ShedCause → Nat
  | .window => 1
  | .gapRide => 2
  | .gapExtended => 3
  | .derate => 4
  | .imposed => 5
  | .setting => 6

/-- The supply state codes (section 11.1). -/
def supplyStateCode : SupplyState → Nat
  | .present => 0
  | .gapRide => 1
  | .gapExtended => 2
  | .recovery => 3

/-- The unit state codes (section 11.1). -/
def unitStateCode : UnitState → Nat
  | .held => 0
  | .running => 1

/-- The reset cause codes (section 11.1). -/
def resetCauseCode : ResetCause → Nat
  | .power => 1
  | .pin => 2
  | .restart => 3

end Sys2Proof.Machine
end

