-- ==== Sys2Proof/Machine/Ops.lean ====
section
/-! DEFINITION. The named operations every block uses: reading and writing ports and settings, countdowns, posting a notice, entering a port state, and
the guard that nothing is taken while a reset lasts. -/

namespace Sys2Proof.Machine

/-! ### Ports, ceiling ports and settings -/

/-- The ports 1 to 56 in ascending order. -/
def allPorts : List Port := List.finRange 56

/-- The ceiling ports C1 to C8 in ascending order. -/
def allCeilings : List Ceiling := List.finRange 8

/-- The number the spec writes for a port (R2). -/
def portNumber (p : Port) : Nat := p.val + 1

/-- The port a number names, none outside 1 to 56 (R2). -/
def portOfNumber (n : Nat) : Option Port :=
  if h : 1 ≤ n ∧ n ≤ 56 then some ⟨n - 1, by omega⟩ else none

/-- A CEILING port's port number: C1 is port 49 (R2). -/
def ceilingPort (c : Ceiling) : Port := ⟨c.val + 48, by omega⟩

/-- The ceiling port a port is, none for a SEAT port (R2). -/
def ceilingOf (p : Port) : Option Ceiling :=
  if h : 48 ≤ p.val then some ⟨p.val - 48, by omega⟩ else none

/-- A port's record. -/
def State.port (s : State) (p : Port) : PortRecord := s.ports.get p

/-- A ceiling port's link record. -/
def State.ceiling (s : State) (c : Ceiling) : CeilingRecord := s.ceilings.get c

/-- Change one port's record. -/
def State.updPort (s : State) (p : Port) (f : PortRecord → PortRecord) : State :=
  { s with ports := s.ports.set p.val (f (s.ports.get p)) p.isLt }

/-- Change one ceiling port's link record. -/
def State.updCeiling (s : State) (c : Ceiling) (f : CeilingRecord → CeilingRecord) : State :=
  { s with ceilings := s.ceilings.set c.val (f (s.ceilings.get c)) c.isLt }

/-- Every element of a fixed-length table changed alike. -/
def mapAll {α : Type} {n : Nat} (f : α → α) (v : Vector α n) : Vector α n :=
  ⟨⟨v.toList.map f⟩, by simp⟩

/-- A port's settings in the profile in force (R14). -/
def State.portSettings (s : State) (p : Port) : PortSettings :=
  (s.settings.profiles.get s.settings.inForce).get p

/-- A port's priority in the profile in force, read where it is used (section 1.6). -/
def State.priorityOf (s : State) (p : Port) : Priority := (s.portSettings p).priority

/-- Write one port's settings in one profile (R15). -/
def Settings.writePort (g : Settings) (i : Fin 2) (p : Port) (x : PortSettings) : Settings :=
  { g with profiles := g.profiles.set i.val ((g.profiles.get i).set p.val x p.isLt) i.isLt }

/-! ### The timebase -/

/-- The unit clock: a 32-bit count of milliseconds from the end of the last reset, wrapping to 0 (section Countdowns and the timebase). -/
def State.unitClock (s : State) : BitVec 32 := BitVec.ofNat 32 s.now

/-- Load a countdown with a duration in milliseconds (R1). -/
def loadMs (ms : Nat) : Countdown := .running ms

/-- Load a countdown with a duration in seconds, as that many thousands of milliseconds (R1). -/
def loadSeconds (sec : Nat) : Countdown := .running (1000 * sec)

/-- Whether a countdown has expired: it has come due and nothing has cancelled or reloaded it since (R1). An expiry that finds its countdown
otherwise does nothing. -/
def Countdown.expired (c : Countdown) : Bool := c == .due

/-- One tick of a countdown: loaded with n it comes due at the tick after n ticks, between n and n+1 ms after it was loaded (R1); a
duration measured from the load to its own expiry is therefore n + 1 whole ticks (log entry 30). -/
def Countdown.tick : Countdown → Countdown
  | .idle => .idle
  | .running 0 => .due
  | .running (n + 1) => .running n
  | .due => .due

/-! ### Notices -/

/-- Whether a notice is of class URGENT (section 9.7; WINDOW_CHANGE by R67). -/
def NoticeBody.urgent : NoticeBody → Bool
  | .resetDone _ | .autonomousStart _ | .portFault .. | .portLockout .. | .shed .. | .gapBegin _ | .rideLimit _
  | .sensorFaultReported | .sensorOutOfRange _ => true
  | .windowChange _ _ fell => fell
  | .deviceFound .. | .deviceGone .. | .portShortSeen _ | .restored .. | .gapEnd .. | .excursions .. | .linkChange ..
  | .recycled .. => false

/-- Post a notice: it joins the end of its class while fewer than 48 are held, and is otherwise discarded with the overflow flag set (R162). -/
def State.post (s : State) (b : NoticeBody) : State :=
  let n : Notice := ⟨b, s.unitClock⟩
  if s.notices.count < Config.noticePlaces then
    if b.urgent then { s with notices := { s.notices with urgent := s.notices.urgent ++ [n] } }
    else { s with notices := { s.notices with routine := s.notices.routine ++ [n] } }
  else { s with notices := { s.notices with overflow := true } }

/-! ### Entering a port state -/

/-- Whether a port in this state holds an allocation and stands on the commit list (section 2.1, R90). -/
def PortState.committed : PortState → Bool
  | .inrush | .on | .recycle => true
  | _ => false

/-- A port's record as it enters a state: the countdown and the outstanding operation of the state left are cancelled (R21), the
recycle phase exists in RECYCLE alone (R4) and the lockout cause in LOCKOUT alone (R8). The state entered then sets its own. -/
def PortRecord.enter (r : PortRecord) (st : PortState) : PortRecord :=
  { r with state := st, recyclePhase := none, lockoutCause := none, countdown := .idle, operation := .none }

/-- Send a port to SEARCH: front end off, a probe issued, the detection interval loaded; the mark, the short-seen flag, the grade and the
counts are kept (R23). -/
def State.enterSearch (s : State) (p : Port) : State :=
  s.updPort p fun r =>
    { r.enter .search with
      switch := .off, operation := .probe, countdown := loadMs s.settings.timing.detectionInterval }

/-- The port is no longer supervised: the Overcurrent Monitor abandons any excursion (R49), and on a CEILING port link supervision becomes
IDLE with its countdowns cancelled (R143). -/
def State.endSupervision (s : State) (p : Port) : State :=
  let s := s.updPort p fun r => { r with supervision := .unsupervised, tolerance := .idle, excursion := none }
  match ceilingOf p with
  | some c => s.updCeiling c fun r => { r with active := false, linkCountdown := .idle, stableCountdown := .idle }
  | none => s

/-! ### Resets -/

/-- While a reset is in progress no sample, arrival, countdown or request is taken (R168). Every command but the four of the supply and
RST goes through this guard. -/
def State.unlessReset (s : State) (f : State → State) : State :=
  if s.unit.inReset.isSome then s else f s

/-- A command's outcome: every command answers a next state (log entry 16). -/
def taken (s : State) (f : State → State) : Host.Outcome State Fault Refusal := .next (s.unlessReset f)

end Sys2Proof.Machine
end

