-- ==== Sys2Proof/Machine/Queue.lean ====
section
/-! DEFINITION. The grant queue: the queue order, joins, removals, changes in place and pass counts (sections 6.1, 6.2). -/

namespace Sys2Proof.Machine

/-- Whether an entry stands ahead of another: RESERVED entries first in join order; then by priority, MARKED before ORDINARY, then join
order (R107). -/
def QueueEntry.ahead (a b : QueueEntry) : Bool :=
  match a.kind, b.kind with
  | .reserved, .reserved => decide (a.joinRank < b.joinRank)
  | .reserved, _ => true
  | _, .reserved => false
  | ka, kb =>
    if a.priority ≠ b.priority then decide (a.priority < b.priority)
    else if ka ≠ kb then ka == .marked
    else decide (a.joinRank < b.joinRank)

/-- Put an entry in its place by the queue order (R107). -/
def placeEntry (e : QueueEntry) : List QueueEntry → List QueueEntry
  | [] => [e]
  | x :: xs => if e.ahead x then e :: x :: xs else x :: placeEntry e xs

/-- Put every entry in its place again, after some have changed priority or kind (R110). -/
def reorder (q : List QueueEntry) : List QueueEntry := q.foldr placeEntry []

/-- The entry a port holds, if it holds one (R105). -/
def State.entryOf (s : State) (p : Port) : Option QueueEntry := s.queue.find? (fun e => e.port == p)

/-- Enter a port in the queue, youngest in join order with a pass count of 0; a port that already holds an entry keeps it (R108). -/
def State.joinQueue (s : State) (p : Port) (kind : EntryKind) : State :=
  if (s.entryOf p).isSome then s
  else
    { s with queue := placeEntry ⟨p, s.priorityOf p, kind, s.queue.length + 1, 0⟩ s.queue }

/-- Take a port's entry out of the queue whole: the entries behind it close up and the ranks of the younger ones fall by one (R109). -/
def State.leaveQueue (s : State) (p : Port) : State :=
  match s.entryOf p with
  | none => s
  | some e =>
    { s with
      queue := (s.queue.filter (fun x => x.port != p)).map fun x =>
        if e.joinRank < x.joinRank then { x with joinRank := x.joinRank - 1 } else x }

/-- Give a port's entry a new priority and its place under it, keeping kind, join order and pass count (R110). -/
def State.repriceEntry (s : State) (p : Port) (new : Priority) : State :=
  { s with queue := reorder (s.queue.map fun e => if e.port = p then { e with priority := new } else e) }

/-- Every MARKED entry becomes ORDINARY and takes its place among the ORDINARY ones of its level (R110, R127). -/
def State.unmarkEntries (s : State) : State :=
  { s with
    queue := reorder (s.queue.map fun e => if e.kind = .marked then { e with kind := .ordinary } else e) }

/-- Each of these ports' entries has been passed over once more, saturating at 15 (R117). -/
def State.raisePassCounts (s : State) (passed : List Port) : State :=
  { s with
    queue := s.queue.map fun e =>
      if e.port ∈ passed then { e with passCount := min (e.passCount + 1) 15 } else e }

/-- The number of ports in INRUSH, which is the number of inrush slots in use (R111). -/
def State.inrushCount (s : State) : Nat := s.ports.toList.countP (fun r => r.state == .inrush)

end Sys2Proof.Machine
end

