-- ==== Sys2Proof/Machine/Ledger.lean ====
section
/-! DEFINITION. The Budget Ledger and the Grant Arbiter: the figures, the allocation, the fit tests, the commit and the grant, the arbiter walk,
release, shedding, the restore test and the pop, the restore run and the evaluation (chapters 5, 6 and 7). -/

namespace Sys2Proof.Machine

/-! ### The figures -/

/-- A window's budget; window 0 holds the default budget (R62). -/
def Settings.windowBudget (g : Settings) (w : WindowIndex) : Nat :=
  if h : w.val = 0 then g.defaultBudget else (g.windows.get ⟨w.val - 1, by omega⟩).budget

/-- The window budget the Supply Monitor hands over: that of the active window, 0 mW before the first voltage sample (R67, R84). -/
def State.windowBudget (s : State) : Nat :=
  match s.supply.activeWindow with
  | none => 0
  | some w => s.settings.windowBudget w

/-- The value of a gap cap in the settings in force (R81). -/
def SupplySettings.capOf (g : SupplySettings) : CapKind → Nat
  | .ride => g.rideCap
  | .extended => g.extendedCap

/-- The gap cap by supply state: none in PRESENT, and in RECOVERY the cap that the recovery cap records (R81). -/
def State.gapCap (s : State) : Option Nat :=
  match s.supply.state with
  | .present => none
  | .gapRide => some s.settings.supply.rideCap
  | .gapExtended => some s.settings.supply.extendedCap
  | .recovery => s.supply.recoveryCap.map s.settings.supply.capOf

/-- A figure limited by a cap, if there is one. -/
def limitBy (n : Nat) : Option Nat → Nat
  | none => n
  | some cap => min n cap

/-- The supply budget S (R84). -/
def State.computeS (s : State) : Nat := limitBy (limitBy s.windowBudget s.gapCap) s.ledger.imposedCap

/-- The derate at a temperature: k times the excess of T over T0, or 0 (R85). -/
def SupplySettings.derateAt (g : SupplySettings) (t : Int) : Nat := g.derateSlope * (t - g.derateStart).toNat

/-- The derate D (R85). -/
def State.computeD (s : State) : Nat := s.settings.supply.derateAt s.supply.temperature

/-- Available A: S − D − G when that is above 0, otherwise 0 (R86). -/
def availableOf (budget derate guardBand : Nat) : Nat := budget - (derate + guardBand)

/-- The first step of an evaluation: S, D and A are computed and become the held figures (R101). -/
def State.recompute (s : State) : State :=
  { s with
    ledger :=
      { s.ledger with
        supplyBudget := s.computeS, derate := s.computeD
        available := availableOf s.computeS s.computeD s.settings.supply.guardBand } }

/-- A port's allocation in mW, 0 when it holds none. -/
def State.allocationOf (s : State) (p : Port) : Nat := (s.port p).allocation.getD 0

/-- Committed C: the sum of the allocations on the commit list (R90). -/
def State.committed (s : State) : Nat := (s.ledger.commitList.map s.allocationOf).sum

/-- Pledged P: the sum of the pledges of the ports bearing a restore mark (R94). -/
def State.pledged (s : State) : Nat := (s.ports.toList.map fun r => r.mark.getD 0).sum

/-- A record's total: the sum of its entries' allocations (R124). -/
def ShedRecord.total (r : ShedRecord) : Nat := (r.entries.map (·.allocation)).sum

/-- The top reserve Rt: the total of the record on top, 0 when the stack is empty (R95). -/
def State.topReserve (s : State) : Nat :=
  match s.stack with
  | [] => 0
  | r :: _ => r.total

/-! ### Allocation and fit tests -/

/-- The allocation of a device: Pg × (1000 + L) / 1000 rounded up to a multiple of 50 mW, then cut to the cap; the flag says
whether it was cut (R96). -/
def allocationFor (power loss cap : Nat) : Nat × Bool :=
  let rounded := 50 * ((power * (1000 + loss) + 49999) / 50000)
  if cap < rounded then (cap, true) else (rounded, false)

/-- The allocation the Ledger computes for a port from its grade, the grade table and its loss allowance and cap in force (R96, R97).
An entry's port has a grade (R5); grade 0 stands in where a state no run reaches has none (log entry 14). -/
def State.computeAllocation (s : State) (p : Port) : Nat × Bool :=
  allocationFor (s.settings.grades.get ((s.port p).grade.getD 0)) (s.portSettings p).loss (s.portSettings p).cap

/-- The free figure a waiting entry's allocation is tested against, signed (R98, R99). A RESERVED entry is not tested. -/
def State.freeFigure (s : State) (e : QueueEntry) : Int :=
  let room : Int := (s.ledger.available : Int) - s.committed
  match e.kind with
  | .marked => room - ((s.pledged : Int) - ((s.port e.port).mark.getD 0 : Nat))
  | .ordinary => if e.priority = 0 then room - s.pledged else room - s.pledged - s.topReserve
  | .reserved => room

/-- The fit test (R98, R115). -/
def State.fits (s : State) (e : QueueEntry) : Bool := decide (((s.computeAllocation e.port).1 : Int) ≤ s.freeFigure e)

/-! ### Grant -/

/-- Entry to INRUSH: the current limit and the ramp are commanded and the inrush limit is loaded (R29). -/
def State.enterInrush (s : State) (p : Port) : State :=
  s.updPort p fun r =>
    { r.enter .inrush with
      currentLimit := r.allocation, switch := .ramping, countdown := loadMs s.settings.timing.inrushLimit }

/-- An ordinary or marked grant: the allocation is committed at the tail of the list and written with its capped flag, any mark goes, and
the port enters INRUSH (R29, R91, R115). A port that is not QUEUED ignores the request (R29, R38). -/
def State.grantQueued (s : State) (p : Port) : State :=
  let a := s.computeAllocation p
  let s := s.leaveQueue p
  if (s.port p).state = .queued then
    let s := { s with ledger := { s.ledger with commitList := s.ledger.commitList ++ [p] } }
    let s := s.updPort p fun r => { r with allocation := some a.1, capped := a.2, mark := none }
    s.enterInrush p
  else s

/-- A reserved grant: the port keeps its allocation, its capped flag and its commit-list place and enters INRUSH (R29, R91, R149). A port
that is not in WAIT_SLOT ignores the request (R29, R38). -/
def State.grantReserved (s : State) (p : Port) : State :=
  let s := s.leaveQueue p
  if (s.port p).state = .recycle ∧ (s.port p).recyclePhase = some .waitSlot then s.enterInrush p else s

/-! ### The arbiter walk -/

/-- A walk of the queue (R114 to R117) over the entries still ahead of it. `level` is the priority the walk is confined to once an entry of it
has not fitted (R116), `passed` the ports of that level found not to fit. Answers the state and whether a MARKED entry was granted (R91). -/
def walk : List QueueEntry → Option Priority → List Port → Bool → State → State × Bool
  | [], _, _, granted, s => (s, granted)
  | e :: rest, level, passed, granted, s =>
    if s.settings.timing.inrushSlots ≤ s.inrushCount then (s, granted)
    else if e.kind = .reserved then walk rest level passed granted (s.grantReserved e.port)
    else if level.isSome ∧ level ≠ some e.priority then (s, granted)
    else if s.fits e then
      walk rest level passed (granted || e.kind == .marked) ((s.grantQueued e.port).raisePassCounts passed)
    else if s.settings.timing.passLimit ≤ e.passCount then (s, granted)
    else walk rest (some e.priority) (e.port :: passed) granted s

/-! ### Restoration -/

/-- The restore test (R132): the stack is not empty, the top record's hold has expired, and Rt is at or below A − C − P − Hr, signed. That no
port was shed in this evaluation is the caller's part. -/
def State.restorePasses (s : State) : Bool :=
  match s.stack with
  | [] => false
  | r :: _ =>
    r.holdExpired
      && decide ((r.total : Int) ≤ (s.ledger.available : Int) - s.committed - s.pledged
        - s.settings.supply.restoreHysteresis)

/-- Restore one listed port: from SHED to SEARCH with a mark whose pledge is its allocation at shed; in any other state the request is
ignored (R133, R38). -/
def State.restorePort (s : State) (e : ShedEntry) : State :=
  if (s.port e.port).state = .shed then
    (s.enterSearch e.port).updPort e.port fun r => { r with mark := some e.allocation }
  else s

/-- Pop the top record: its ports are restored and RESTORED is posted (R133). -/
def State.popRecord (s : State) : State :=
  match s.stack with
  | [] => s
  | r :: below =>
    let s := r.entries.foldl State.restorePort { s with stack := below }
    s.post (.restored r.entries.length r.total)

/-- The restore test with its pop (R132). -/
def State.restoreTest (s : State) : State := if s.restorePasses then s.popRecord else s

/-- Arbiter runs, each walking the queue once; a walk that granted a MARKED entry is followed by one restore run, whose own arbiter run walks
again (R91, R102, R115). Each such walk took an entry out of the queue, so as many runs as the queue has entries, and one, are enough. -/
def arbiterRuns : Nat → State → State
  | 0, s => s
  | n + 1, s =>
    let w := walk s.queue none [] false s
    if w.2 then arbiterRuns n w.1.restoreTest else w.1

/-- An arbiter run (R113). -/
def State.arbiterRun (s : State) : State := arbiterRuns (s.queue.length + 1) s

/-- A restore run: the restore test on the held figures, then an arbiter run (R102). -/
def State.restoreRun (s : State) : State := s.restoreTest.arbiterRun

/-! ### Release -/

/-- Release a port: the front end is commanded off, the allocation goes, supervision ends and the port leaves the commit list, so that C
falls by its allocation (R33, R92). The state the port enters and the run that follows are the caller's. -/
def State.release (s : State) (p : Port) : State :=
  let s := s.updPort p fun r =>
    { r with switch := .off, currentLimit := none, allocation := none, capped := false }
  let s := s.endSupervision p
  { s with ledger := { s.ledger with commitList := s.ledger.commitList.filter (· != p) } }

/-! ### Shedding -/

/-- The candidates of a shed step at one priority, latest grant first (R125). -/
def State.candidatesAt (s : State) (k : Priority) : List Port :=
  s.ledger.commitList.reverse.filter fun p => s.priorityOf p == k && (s.port p).state.committed

/-- The candidates of a shed step in shed order: priority 3, then 2, then 1 (R125). Priority 0 is not shed. -/
def State.candidates (s : State) : List Port := s.candidatesAt 3 ++ s.candidatesAt 2 ++ s.candidatesAt 1

/-- Send a committed port to SHED with its release; a WAIT_SLOT port's reserved entry leaves the queue (R126, R150). -/
def State.shedPort (s : State) (p : Port) : State :=
  ((s.leaveQueue p).release p).updPort p fun r => r.enter .shed

/-- The shed step: candidates are taken one at a time until C is at or below A (R126). Answers the batch's entries and the state. -/
def shedStep : List Port → List ShedEntry → State → List ShedEntry × State
  | [], batch, s => (batch, s)
  | p :: ps, batch, s =>
    if s.committed ≤ s.ledger.available then (batch, s)
    else shedStep ps (batch ++ [⟨p, s.allocationOf p⟩]) (s.shedPort p)

/-- A fresh restore hold: expired at once when the setting is 0 (R131). -/
def State.freshHold (s : State) : Countdown :=
  if s.settings.supply.restoreHold = 0 then .idle else loadSeconds s.settings.supply.restoreHold

/-- Record a batch: a push while fewer than 6 records stand, else a merge into the top record (R128, R129). -/
def State.recordBatch (s : State) (cause : ShedCause) (batch : List ShedEntry) : State :=
  match s.stack with
  | top :: below =>
    if s.stack.length < Config.stackPlaces then { s with stack := ⟨cause, false, s.freshHold, batch⟩ :: s.stack }
    else
      { s with stack := { top with merged := true, hold := s.freshHold, entries := top.entries ++ batch } :: below }
  | [] => { s with stack := [⟨cause, false, s.freshHold, batch⟩] }

/-- Every restore mark is removed, and the entries of marked ports become ORDINARY (R127 step 1). -/
def State.clearMarks (s : State) : State :=
  ({ s with ports := mapAll (fun r => { r with mark := none }) s.ports }).unmarkEntries

/-- Report a batch to the gap measurement: its shed count rises by the number of ports, saturating at 255, while a gap is in progress (R75). -/
def State.reportShed (s : State) (ports : Nat) : State :=
  { s with
    supply :=
      { s.supply with measurement := s.supply.measurement.map fun m => { m with shed := min (m.shed + ports) 255 } } }

/-- What a batch does, in the order of R127. -/
def State.makeBatch (s : State) (cause : ShedCause) (batch : List ShedEntry) : State :=
  let s := s.clearMarks
  let s := s.recordBatch cause batch
  let s := s.post (.shed cause batch.length (batch.map (·.allocation)).sum)
  if s.disturbed then s.reportShed batch.length else s

/-! ### Evaluation -/

/-- The second step of an evaluation: the shed step and its batch when C exceeds A, the restore test otherwise (R101). -/
def State.shedOrRestore (s : State) (cause : ShedCause) : State :=
  if s.ledger.available < s.committed then
    let r := shedStep s.candidates [] s
    if r.1.isEmpty then r.2 else r.2.makeBatch cause r.1
  else s.restoreTest

/-- One evaluation: the figures, then shed or restore, then one arbiter run (R101). -/
def State.evaluate (s : State) (cause : ShedCause) : State := ((s.recompute).shedOrRestore cause).arbiterRun

end Sys2Proof.Machine
end

