-- ==== Sys2Proof/Machine/Sequencer.lean ====
section
/-! DEFINITION. The Port Sequencer: entry to each port state, front-end arrivals and state-countdown expiries, admin and priority changes (chapters 1
and 2), and the meanings of their commands. -/

namespace Sys2Proof.Machine

/-! ### Entry to the states -/

/-- Entry to CLASSIFY: a grade command is issued and the classification limit loaded (R26). -/
def State.enterClassify (s : State) (p : Port) : State :=
  s.updPort p fun r =>
    { r.enter .classify with operation := .grade, countdown := loadMs Config.classificationLimit }

/-- Entry to QUEUED, and the join it asks of the Arbiter: MARKED if the port carries a mark, ORDINARY otherwise (R28). The join's arbiter
run is the caller's. -/
def State.enterQueued (s : State) (p : Port) : State :=
  let s := s.updPort p fun r => r.enter .queued
  s.joinQueue p (if (s.port p).mark.isSome then .marked else .ordinary)

/-- Link supervision of a CEILING port becomes ACTIVE and reads the link state: DOWN loads the recycle wait, UP the link stable time (R143). -/
def State.beginLinkSupervision (s : State) (c : Ceiling) : State :=
  s.updCeiling c fun r =>
    match r.linkState with
    | .down => { r with active := true, linkCountdown := loadSeconds s.settings.timing.recycleWait }
    | .up => { r with active := true, stableCountdown := loadSeconds s.settings.timing.linkStableTime }

/-- Entry to ON: the forgiveness time is loaded, overcurrent supervision begins in WATCHING and, on a CEILING port, link supervision (R32, R49). -/
def State.enterOn (s : State) (p : Port) : State :=
  let s := s.updPort p fun r =>
    { r.enter .on with
      switch := .on, countdown := loadSeconds s.settings.timing.forgivenessTime
      supervision := .watching, tolerance := .idle, excursion := none }
  match ceilingOf p with
  | some c => s.beginLinkSupervision c
  | none => s

/-- The record's part of an entry to FAULT_HOLD: the count rises by 1 up to 15, the cause is written and the holdoff loaded (R34). -/
def PortRecord.holdFault (r : PortRecord) (cause : FaultCause) (holdoff : Nat) : PortRecord :=
  { r.enter .faultHold with
    switch := .off, faultCount := min (r.faultCount + 1) 15, lastFault := some cause, countdown := loadSeconds holdoff }

/-- Entry to FAULT_HOLD from a state that holds no power (R34), with its PORT_FAULT notice. -/
def State.enterFaultHold (s : State) (p : Port) (cause : FaultCause) : State :=
  let s := s.updPort p fun r => r.holdFault cause s.settings.timing.faultHoldoff
  s.post (.portFault p cause (s.port p).faultCount)

/-- A fault of a powered port: its release, the fault hold and its notice, then the restore run of the release (R33, R34). -/
def State.faultPowered (s : State) (p : Port) (cause : FaultCause) : State :=
  ((s.release p).enterFaultHold p cause).restoreRun

/-- Entry to LOCKOUT with its cause and PORT_LOCKOUT notice (R35, R145). -/
def State.enterLockout (s : State) (p : Port) (cause : LockoutCause) : State :=
  let s := s.updPort p fun r => { r.enter .lockout with switch := .off, lockoutCause := some cause }
  s.post (.portLockout p cause)

/-- Entry to RECYCLE from ON: front end off, the off-time loaded, phase OFF_TIME, supervision ended; the allocation, the capped flag and
the commit-list place are kept (R147). -/
def State.enterRecycle (s : State) (p : Port) : State :=
  let s := s.updPort p fun r =>
    { r.enter .recycle with
      switch := .off, recyclePhase := some .offTime, countdown := loadSeconds s.settings.timing.recycleOffTime }
  s.endSupervision p

/-! ### Mark loss and record shrinking -/

/-- A port loses its restore mark, so that Pledged falls by the pledge (R94, R135). -/
def State.dropMark (s : State) (p : Port) : State := s.updPort p fun r => { r with mark := none }

/-- Lose a mark outside an evaluation: if the port carried one, the restore run of the pledge drop follows (R94, R102). -/
def State.loseMark (s : State) (p : Port) : State :=
  if (s.port p).mark.isSome then (s.dropMark p).restoreRun else s

/-- A listed port's entry is removed from its record; an emptied record is removed and those below it move up (R137). -/
def State.shrinkRecord (s : State) (p : Port) : State :=
  { s with
    stack :=
      (s.stack.map fun r => { r with entries := r.entries.filter fun e => e.port != p }).filter fun r =>
        !r.entries.isEmpty }

/-! ### Admin and priority changes -/

/-- The run that follows a change made outside an evaluation (R16, R109): none, one arbiter run, or one restore run. -/
inductive FollowUp where
  | none
  | arbiter
  | restore
  deriving DecidableEq, Repr

/-- Make the run a change asks for. -/
def State.follow (s : State) : FollowUp → State
  | .none => s
  | .arbiter => s.arbiterRun
  | .restore => s.restoreRun

/-- A pledge drop asks for a restore run (R94). -/
def followMark (r : PortRecord) (otherwise : FollowUp) : FollowUp := if r.mark.isSome then .restore else otherwise

/-- A port goes to DISABLED from the state the change finds, with the effects of R16 on its record and neighbours; answers the run that the
change asks for when it was made alone (R16, R109, R137). -/
def State.disablePort (s : State) (p : Port) : State × FollowUp :=
  let r := s.port p
  let off : State → State := fun s => s.updPort p fun r => { r.enter .disabled with switch := .off, mark := none }
  match r.state with
  | .disabled => (s, .none)
  | .search | .classify => (off s, followMark r .none)
  | .queued => (off (s.leaveQueue p), followMark r .arbiter)
  | .inrush | .on | .recycle => (off ((s.leaveQueue p).release p), .restore)
  | .shed => (off (s.shrinkRecord p), .restore)
  | .dormant | .faultHold | .lockout => (off s, .none)

/-- A port whose admin setting becomes ENABLED goes from DISABLED to SEARCH; in any other state only the setting changes (R17). -/
def State.enablePort (s : State) (p : Port) : State :=
  if (s.port p).state = .disabled then s.enterSearch p else s

/-- The effect of an admin change of the profile in force while RUNNING (R16, R17). -/
def State.applyAdmin (s : State) (p : Port) (enabled : Bool) : State × FollowUp :=
  if enabled then (s.enablePort p, .none) else s.disablePort p

/-- The effect of a priority change of the profile in force while RUNNING: a queue entry is re-placed, and a SHED port raised to 0 leaves its
record for SEARCH without a mark (R18, R110, R137). -/
def State.applyPriority (s : State) (p : Port) (new : Priority) : State :=
  let s := s.repriceEntry p new
  if (s.port p).state = .shed ∧ new = 0 then (s.shrinkRecord p).enterSearch p else s

/-! ### Arrivals and expiries -/

/-- A detection result, taken in SEARCH with a probe outstanding and ignored otherwise (R24, R9). -/
def State.takeDetection (s : State) (p : Port) (d : Detection) : State :=
  let r := s.port p
  if r.state = .search ∧ r.operation = .probe then
    let s := s.updPort p fun r => { r with operation := .none }
    match d with
    | .valid => (s.updPort p fun r => { r with shortSeen := false }).enterClassify p
    | .opened | .invalid => (s.updPort p fun r => { r with shortSeen := false }).loseMark p
    | .short =>
      let s := if r.shortSeen then s else s.post (.portShortSeen p)
      (s.updPort p fun r => { r with shortSeen := true }).loseMark p
  else s

/-- A command's meaning: DETECTION_RESULT (R24). -/
def execDetectionResult (p : Port) (d : Detection) (s : State) : Host.Outcome State Fault Refusal :=
  taken s (·.takeDetection p d)

/-- The detection countdown expires in SEARCH: it is reloaded, and a probe is issued if none is outstanding (R25). -/
def State.expireDetection (s : State) (p : Port) : State :=
  if (s.port p).state = .search ∧ (s.port p).countdown.expired then
    s.updPort p fun r =>
      { r with
        countdown := loadMs s.settings.timing.detectionInterval
        operation := if r.operation = .none then .probe else r.operation }
  else s

/-- A command's meaning: DETECTION_EXPIRY (R25). -/
def execDetectionExpiry (p : Port) (s : State) : Host.Outcome State Fault Refusal := taken s (·.expireDetection p)

/-- A grade of 0 to 6 taken: it is written, DEVICE_FOUND is posted for an unmarked port, and the port joins the queue with the join's arbiter
run (R26, R28, R108; the notice stands before the run, log entry 11). -/
def State.acceptGrade (s : State) (p : Port) (g : Fin 7) : State :=
  let s := s.updPort p fun r => { r with grade := some g }
  let s := if (s.port p).mark.isSome then s else s.post (.deviceFound p g)
  (s.enterQueued p).arbiterRun

/-- A grade of 7 taken: no grade, any mark gone, and a fault hold; the pledge drop's restore run comes last (R26, R34, log entry 11). -/
def State.rejectGrade (s : State) (p : Port) : State :=
  let marked := (s.port p).mark.isSome
  let s := s.updPort p fun r => { r with grade := none, mark := none }
  let s := s.enterFaultHold p .gradeInvalid
  if marked then s.restoreRun else s

/-- A grade result, taken in CLASSIFY with a grade command outstanding and ignored otherwise (R26). -/
def State.takeGrade (s : State) (p : Port) (g : Fin 8) : State :=
  if (s.port p).state = .classify ∧ (s.port p).operation = .grade then
    if h : g.val < 7 then s.acceptGrade p ⟨g.val, h⟩ else s.rejectGrade p
  else s

/-- A command's meaning: GRADE_RESULT (R26). -/
def execGradeResult (p : Port) (g : Fin 8) (s : State) : Host.Outcome State Fault Refusal := taken s (·.takeGrade p g)

/-- The classification limit expires in CLASSIFY: back to SEARCH with a new probe (R27). -/
def State.expireClassify (s : State) (p : Port) : State :=
  if (s.port p).state = .classify ∧ (s.port p).countdown.expired then s.enterSearch p else s

/-- A command's meaning: CLASSIFY_LIMIT_EXPIRY (R27). -/
def execClassifyLimitExpiry (p : Port) (s : State) : Host.Outcome State Fault Refusal := taken s (·.expireClassify p)

/-- Presence lost in QUEUED: the entry leaves the queue, the port returns to SEARCH with its mark kept, and one arbiter run follows (R28, R109). -/
def State.loseQueued (s : State) (p : Port) : State :=
  (((s.leaveQueue p).enterSearch p).post (.deviceGone p .queued 0)).arbiterRun

/-- Presence lost in INRUSH or ON: the port is released and returns to SEARCH, DEVICE_GONE is posted, and the restore run of the release
follows (R30, R32, R33). -/
def State.losePowered (s : State) (p : Port) (left : PortState) : State :=
  let released := s.allocationOf p
  (((s.release p).enterSearch p).post (.deviceGone p left released)).restoreRun

/-- Presence lost, taken in QUEUED, INRUSH or ON and ignored otherwise (R28, R30, R32). -/
def State.losePresence (s : State) (p : Port) : State :=
  match (s.port p).state with
  | .queued => s.loseQueued p
  | .inrush => s.losePowered p .inrush
  | .on => s.losePowered p .on
  | _ => s

/-- A command's meaning: PRESENCE_LOST (R28). -/
def execPresenceLost (p : Port) (s : State) : Host.Outcome State Fault Refusal := taken s (·.losePresence p)

/-- Ramp complete in INRUSH: the port enters ON and the freed slot makes one arbiter run (R30, R111). -/
def State.completeRamp (s : State) (p : Port) : State :=
  if (s.port p).state = .inrush then (s.enterOn p).arbiterRun else s

/-- A command's meaning: RAMP_COMPLETE (R30). -/
def execRampComplete (p : Port) (s : State) : Host.Outcome State Fault Refusal := taken s (·.completeRamp p)

/-- A short in INRUSH or ON: FAULT_HOLD with cause SHORT (R30, R32, R58). -/
def State.takeShort (s : State) (p : Port) : State :=
  match (s.port p).state with
  | .inrush | .on => s.faultPowered p .short
  | _ => s

/-- A command's meaning: SHORT (R32). -/
def execShort (p : Port) (s : State) : Host.Outcome State Fault Refusal := taken s (·.takeShort p)

/-- The inrush limit expires in INRUSH: FAULT_HOLD with cause INRUSH_TIMEOUT (R31, R120). -/
def State.expireInrush (s : State) (p : Port) : State :=
  if (s.port p).state = .inrush ∧ (s.port p).countdown.expired then s.faultPowered p .inrushTimeout else s

/-- A command's meaning: INRUSH_LIMIT_EXPIRY (R31). -/
def execInrushLimitExpiry (p : Port) (s : State) : Host.Outcome State Fault Refusal := taken s (·.expireInrush p)

/-- The forgiveness countdown expires in ON: the fault count becomes 0 and the countdown is not reloaded (R32). -/
def State.expireForgiveness (s : State) (p : Port) : State :=
  if (s.port p).state = .on ∧ (s.port p).countdown.expired then
    s.updPort p fun r => { r with faultCount := 0, countdown := .idle }
  else s

/-- A command's meaning: FORGIVENESS_EXPIRY (R32). -/
def execForgivenessExpiry (p : Port) (s : State) : Host.Outcome State Fault Refusal := taken s (·.expireForgiveness p)

/-- The holdoff expires in FAULT_HOLD: LOCKOUT with cause FAULT_LIMIT if the count has reached the limit in force, SEARCH otherwise (R35). -/
def State.expireHoldoff (s : State) (p : Port) : State :=
  if (s.port p).state = .faultHold ∧ (s.port p).countdown.expired then
    if s.settings.timing.faultLimit ≤ (s.port p).faultCount then s.enterLockout p .faultLimit else s.enterSearch p
  else s

/-- A command's meaning: HOLDOFF_EXPIRY (R35). -/
def execHoldoffExpiry (p : Port) (s : State) : Host.Outcome State Fault Refusal := taken s (·.expireHoldoff p)

/-- A record's restore hold expires; on the top record the Ledger makes a restore run, below it the record stands expired (R131). -/
def State.expireHold (s : State) (depth : Fin 6) : State :=
  match s.stack[depth.val]? with
  | none => s
  | some r =>
    if r.hold.expired then
      let s := { s with stack := s.stack.set depth.val { r with hold := .idle } }
      if depth = 0 then s.restoreRun else s
    else s

/-- A command's meaning: HOLD_EXPIRY (R131). -/
def execHoldExpiry (depth : Fin 6) (s : State) : Host.Outcome State Fault Refusal := taken s (·.expireHold depth)

end Sys2Proof.Machine
end

