-- ==== Sys2Proof/Machine/Overcurrent.lean ====
section
/-! DEFINITION. The Overcurrent Monitor: timing, measuring and counting excursions, and the overload (chapter 3), with the meanings of its commands. -/

namespace Sys2Proof.Machine

/-- An overcurrent begin in ON while WATCHING starts an excursion; in any other state it is ignored (R50, R30). -/
def State.beginExcursion (s : State) (p : Port) : State :=
  let tol := s.settings.timing.overcurrentTolerance
  if (s.port p).state = .on ∧ (s.port p).supervision = .watching then
    s.updPort p fun r => { r with supervision := .timing, tolerance := loadMs tol, excursion := some ⟨s.now, tol⟩ }
  else s

/-- A command's meaning: OVERCURRENT_BEGIN (R50). -/
def execOvercurrentBegin (p : Port) (s : State) : Host.Outcome State Fault Refusal := taken s (·.beginExcursion p)

/-- The duration of the excursion that ends now: the milliseconds counted since its begin, between 0 and the tolerance then loaded (R51,
log entry 13). -/
def State.excursionLength (s : State) (p : Port) : Nat :=
  match (s.port p).excursion with
  | some x => min (s.now - x.start) x.tolerance
  | none => 0

/-- The peak after an excursion of this duration, saturating at 65 535 (R51, R57). -/
def peakAfter (peak duration : Nat) : Nat := min (max peak duration) 65535

/-- A counted excursion: the count rises by 1; at or above the threshold EXCURSIONS is posted and the count becomes 0 (R54). -/
def State.countExcursion (s : State) (p : Port) : State :=
  let raised := min ((s.port p).excursionCount + 1) 255
  if s.settings.timing.excursionThreshold ≤ raised then
    (s.post (.excursions p raised (s.port p).peakExcursion)).updPort p fun r => { r with excursionCount := 0 }
  else s.updPort p fun r => { r with excursionCount := raised }

/-- An overcurrent end in ON while TIMING: the peak is raised, the excursion is counted if the supply is undisturbed, and the state is WATCHING
again (R51, R56); in any other state it is ignored. -/
def State.endExcursion (s : State) (p : Port) : State :=
  if (s.port p).state = .on ∧ (s.port p).supervision = .timing then
    let d := s.excursionLength p
    let s := s.updPort p fun r => { r with tolerance := .idle, peakExcursion := peakAfter r.peakExcursion d }
    let s := if s.disturbed then s else s.countExcursion p
    s.updPort p fun r => { r with supervision := .watching, excursion := none }
  else s

/-- A command's meaning: OVERCURRENT_END (R51). -/
def execOvercurrentEnd (p : Port) (s : State) : Host.Outcome State Fault Refusal := taken s (·.endExcursion p)

/-- The tolerance expires while TIMING: TRIPPED, and OVERLOAD is sent. The request is the OVERLOAD command; the port's TRIPPED state is what makes it due
(R52, log entry 1). -/
def State.expireTolerance (s : State) (p : Port) : State :=
  if (s.port p).supervision = .timing ∧ (s.port p).tolerance.expired then
    s.updPort p fun r => { r with supervision := .tripped, tolerance := .idle, excursion := none }
  else s

/-- A command's meaning: TOLERANCE_EXPIRY (R52). -/
def execToleranceExpiry (p : Port) (s : State) : Host.Outcome State Fault Refusal := taken s (·.expireTolerance p)

/-- The Sequencer takes an OVERLOAD request while the port is ON and TRIPPED: FAULT_HOLD with cause OVERLOAD; otherwise it is ignored (R52, R38). -/
def State.takeOverload (s : State) (p : Port) : State :=
  if (s.port p).state = .on ∧ (s.port p).supervision = .tripped then s.faultPowered p .overload else s

/-- A command's meaning: OVERLOAD (R52). -/
def execOverload (p : Port) (s : State) : Host.Outcome State Fault Refusal := taken s (·.takeOverload p)

end Sys2Proof.Machine
end

