-- ==== Sys2Proof/Machine/Link.lean ====
section
/-! DEFINITION. Link Sense and Recovery: the link filter, the link and stable countdowns, the recycle and lockout by recycle limit (chapter 8), with
the meanings of its commands. -/

namespace Sys2Proof.Machine

/-- The link state a sensed level stands for: UP for low, DOWN for high (R142). -/
def levelState : LinkLevel → LinkState
  | .low => .up
  | .high => .down

/-- An accepted link change under ACTIVE supervision cancels one countdown and loads the other; under IDLE it loads none (R144). -/
def CeilingRecord.acceptLink (r : CeilingRecord) (new : LinkState) (t : Timing) : CeilingRecord :=
  let r := { r with linkState := new, filterRun := 0 }
  if r.active then
    match new with
    | .down => { r with stableCountdown := .idle, linkCountdown := loadSeconds t.recycleWait }
    | .up => { r with linkCountdown := .idle, stableCountdown := loadSeconds t.linkStableTime }
  else r

/-- A link-sense sample runs the three-sample filter in every port state; an accepted change posts LINK_CHANGE (R142). -/
def State.senseLink (s : State) (c : Ceiling) (level : LinkLevel) : State :=
  let r := s.ceiling c
  let seen := levelState level
  let s := s.updCeiling c fun r => { r with sinceSample := 0 }
  if seen = r.linkState then s.updCeiling c fun r => { r with filterRun := 0 }
  else if r.filterRun + 1 < 3 then s.updCeiling c fun r => { r with filterRun := r.filterRun + 1 }
  else (s.updCeiling c fun r => r.acceptLink seen s.settings.timing).post (.linkChange c seen)

/-- A command's meaning: LINK_SENSE_SAMPLE (R142). -/
def execLinkSenseSample (c : Ceiling) (level : LinkLevel) (s : State) : Host.Outcome State Fault Refusal :=
  taken s (·.senseLink c level)

/-- Whether a ceiling port's next sample has come: one link sample period after its latest, or at once where a shortened period has already
passed (R142). -/
def State.linkSampleDue (s : State) (c : Ceiling) : Bool :=
  decide (s.settings.timing.linkSamplePeriod ≤ (s.ceiling c).sinceSample)

/-- An automatic recycle: the count rises by 1, the port enters RECYCLE and RECYCLED is posted (R145, R147). -/
def State.recycleAutomatically (s : State) (c : Ceiling) : State :=
  let s := s.updCeiling c fun r => { r with recycleCount := r.recycleCount + 1 }
  let s := s.enterRecycle (ceilingPort c)
  s.post (.recycled c (s.ceiling c).recycleCount false)

/-- Lockout by recycle limit: the port is released, goes to LOCKOUT and PORT_LOCKOUT is posted; the release's restore run follows (R145, R33). -/
def State.lockOutRadio (s : State) (c : Ceiling) : State :=
  ((s.release (ceilingPort c)).enterLockout (ceilingPort c) .recycleLimit).restoreRun

/-- The link countdown expires under ACTIVE supervision: a lockout with the count at or above the recycle limit in force, a recycle below it
(R145). A request that finds the port no longer ON is ignored (R38, R146). -/
def State.expireLink (s : State) (c : Ceiling) : State :=
  if (s.ceiling c).active ∧ (s.ceiling c).linkCountdown.expired then
    let s := s.updCeiling c fun r => { r with linkCountdown := .idle }
    if (s.port (ceilingPort c)).state = .on then
      if s.settings.timing.recycleLimit ≤ (s.ceiling c).recycleCount then s.lockOutRadio c
      else s.recycleAutomatically c
    else s
  else s

/-- A command's meaning: LINK_COUNTDOWN_EXPIRY (R145). -/
def execLinkCountdownExpiry (c : Ceiling) (s : State) : Host.Outcome State Fault Refusal := taken s (·.expireLink c)

/-- The stable countdown expires under ACTIVE supervision: the recycle count becomes 0 (R144). -/
def State.expireStable (s : State) (c : Ceiling) : State :=
  if (s.ceiling c).active ∧ (s.ceiling c).stableCountdown.expired then
    s.updCeiling c fun r => { r with recycleCount := 0, stableCountdown := .idle }
  else s

/-- A command's meaning: STABLE_EXPIRY (R144). -/
def execStableExpiry (c : Ceiling) (s : State) : Host.Outcome State Fault Refusal := taken s (·.expireStable c)

/-- The recycle off-time expires in OFF_TIME: WAIT_SLOT, a RESERVED join and its arbiter run (R148, R108). -/
def State.expireOffTime (s : State) (c : Ceiling) : State :=
  let p := ceilingPort c
  let r := s.port p
  if r.state = .recycle ∧ r.recyclePhase = some .offTime ∧ r.countdown.expired then
    let s := s.updPort p fun r => { r with recyclePhase := some .waitSlot, countdown := .idle }
    (s.joinQueue p .reserved).arbiterRun
  else s

/-- A command's meaning: OFF_TIME_EXPIRY (R148). -/
def execOffTimeExpiry (c : Ceiling) (s : State) : Host.Outcome State Fault Refusal := taken s (·.expireOffTime c)

end Sys2Proof.Machine
end

