-- ==== Sys2Proof/Machine/Operands.lean ====
section
/-! DEFINITION. The operand forms of request bodies (section 11.2): the structural fields, the numeric fields as carried, and their clamping and
rounding (R13, R15, R44, R62, R64, R80, R87, R88, R163, R174). A value was changed exactly when what is stored differs from what was carried. -/

namespace Sys2Proof.Machine

/-! ### Structural and enumerated fields -/

/-- A port byte, none outside 1 to 56 (R174). -/
def portOfByte (b : Nat) : Option Port := portOfNumber b

/-- A profile index byte, none but for 0 and 1 (R15, R20, R171). -/
def profileOfByte (b : Nat) : Option (Fin 2) := if h : b < 2 then some ⟨b, h⟩ else none

/-- A flag byte or the admin byte: 0 no, 1 yes, no other value (R174, section 11.1). -/
def flagOfByte (b : Nat) : Option Bool :=
  match b with
  | 0 => some false
  | 1 => some true
  | _ => none

/-- A priority byte, none but for 0 to 3 (R15). -/
def priorityOfByte (b : Nat) : Option Priority := if h : b < 4 then some ⟨b, h⟩ else none

/-- A window index byte, none above 4 (R64). -/
def windowOfByte (b : Nat) : Option WindowIndex := if h : b < 5 then some ⟨b, h⟩ else none

/-- The four commands of Port Command (section 2.10). -/
inductive PortCommand where
  | enable
  | disable
  | clear
  | recycle
  deriving DecidableEq, Repr

/-- The command a Port Command's second byte names (section 11.1). -/
def commandOfByte (b : Byte) : Option PortCommand :=
  if b = commandEnable then some .enable
  else if b = commandDisable then some .disable
  else if b = commandClear then some .clear
  else if b = commandRecycle then some .recycle
  else none

/-! ### Clamping and rounding -/

/-- A value raised to a range's lower end or lowered to its upper end (R174). -/
def clamp (low high v : Nat) : Nat := max low (min v high)

/-- A value rounded down to a multiple of a step. -/
def roundDown (step v : Nat) : Nat := step * (v / step)

/-- A link sample period taken as the nearest of 1, 4 and 16, the higher of two at equal distance (R44). -/
def nearestPeriod (v : Nat) : Nat := if v ≤ 2 then 1 else if v < 10 then 4 else 16

/-- The largest budget and cap of the supply side, in mW (R62, R80, R88). -/
def maxBudget : Nat := 1800000

/-- A window or default budget: clamped, then rounded down to a multiple of 1000 mW (R62, R64). -/
def takeBudget (v : Nat) : Nat := roundDown 1000 (clamp 0 maxBudget v)

/-- The powers of a Set Grades body, grades 0 to 6 (section 11.2). -/
def carriedGrades (body : List Byte) : Vector Nat 7 :=
  #v[read16 body 0, read16 body 2, read16 body 4, read16 body 6, read16 body 8, read16 body 10, read16 body 12]

/-- The powers as stored: each clamped into 1000 to 60 000 mW, not rounded (R13). -/
def takeGrades (g : Vector Nat 7) : Vector Nat 7 := mapAll (clamp 1000 60000) g

/-- The cap and loss allowance of a Set Port body with its admin and priority already read (section 11.2). -/
def carriedPort (body : List Byte) (admin : Bool) (priority : Priority) : PortSettings :=
  ⟨admin, priority, read24 body 4, read16 body 7⟩

/-- Port settings as stored: the cap clamped into 1000 to 70 000 mW and then rounded down to a multiple of 50 mW, the loss clamped into 0 to
250 per mille (R15). -/
def PortSettings.take (x : PortSettings) : PortSettings :=
  { x with cap := roundDown 50 (clamp 1000 70000 x.cap), loss := clamp 0 250 x.loss }

/-- The fourteen settings of a Set Timing body (section 11.2). -/
def carriedTiming (body : List Byte) : Timing where
  detectionInterval := read16 body 0
  inrushLimit := read16 body 2
  faultHoldoff := byteAt body 4
  faultLimit := byteAt body 5
  forgivenessTime := read16 body 6
  overcurrentTolerance := byteAt body 8
  excursionThreshold := byteAt body 9
  recycleWait := read16 body 10
  recycleOffTime := byteAt body 12
  recycleLimit := byteAt body 13
  linkStableTime := read16 body 14
  linkSamplePeriod := byteAt body 16
  inrushSlots := byteAt body 17
  passLimit := byteAt body 18

/-- Timing settings as stored, each in its range (R44, section 2.12). -/
def Timing.take (t : Timing) : Timing where
  detectionInterval := clamp 100 2000 t.detectionInterval
  inrushLimit := clamp 20 500 t.inrushLimit
  faultHoldoff := clamp 1 60 t.faultHoldoff
  faultLimit := clamp 1 15 t.faultLimit
  forgivenessTime := clamp 10 600 t.forgivenessTime
  overcurrentTolerance := clamp 10 200 t.overcurrentTolerance
  excursionThreshold := clamp 1 255 t.excursionThreshold
  recycleWait := clamp 5 300 t.recycleWait
  recycleOffTime := clamp 2 30 t.recycleOffTime
  recycleLimit := clamp 1 7 t.recycleLimit
  linkStableTime := clamp 60 3600 t.linkStableTime
  linkSamplePeriod := nearestPeriod t.linkSamplePeriod
  inrushSlots := clamp 1 4 t.inrushSlots
  passLimit := clamp 0 15 t.passLimit

/-- The ten settings of a Set Supply body (section 11.2). -/
def carriedSupply (body : List Byte) : SupplySettings where
  settleTime := read16 body 0
  rideCap := read24 body 2
  extendedCap := read24 body 5
  rideLimit := read16 body 8
  recoveryDelay := read16 body 10
  guardBand := read24 body 12
  derateStart := byteAt body 15
  derateSlope := read16 body 16
  restoreHysteresis := read24 body 18
  restoreHold := byteAt body 21

/-- Supply settings as stored, each in its range (R80, R87). -/
def SupplySettings.take (g : SupplySettings) : SupplySettings where
  settleTime := clamp 0 5000 g.settleTime
  rideCap := clamp 0 maxBudget g.rideCap
  extendedCap := clamp 0 maxBudget g.extendedCap
  rideLimit := clamp 1 600 g.rideLimit
  recoveryDelay := clamp 0 5000 g.recoveryDelay
  guardBand := clamp 0 100000 g.guardBand
  derateStart := clamp 20 100 g.derateStart
  derateSlope := clamp 0 20000 g.derateSlope
  restoreHysteresis := clamp 0 100000 g.restoreHysteresis
  restoreHold := clamp 0 60 g.restoreHold

/-- The window of a Set Window body for index 1 to 4, its flag already read (section 11.2). -/
def carriedWindow (body : List Byte) (enabled : Bool) : Window :=
  ⟨enabled, read16 body 2, read16 body 4, read24 body 6⟩

/-- A window as stored: bounds clamped into 0 to 1500 dV, the budget clamped and rounded (R64). -/
def Window.take (w : Window) : Window :=
  { w with low := clamp 0 1500 w.low, high := clamp 0 1500 w.high, budget := takeBudget w.budget }

end Sys2Proof.Machine
end

