-- ==== Sys2Proof/Machine/StartUp.lean ====
section
/-! DEFINITION. The Start-Up Controller: straps, the three resets, entry to RUNNING and the autonomy expiry (chapter 10), with the meanings of its
commands. -/

namespace Sys2Proof.Machine

/-! ### Straps -/

/-- The unit address: ADDR 1 to 31, and 31 for an ADDR of 0 (R166). -/
def unitAddress (x : Straps) : Nat := if x.addr.val = 0 then 31 else x.addr.val

/-- The strap-default flag: yes when ADDR reads 0 (R166). -/
def strapDefault (x : Straps) : Bool := x.addr.val == 0

/-- The autonomy time in seconds, none for "never" (section 10.1). -/
def autonomySeconds (x : Straps) : Option Nat :=
  match x.auto with
  | 0 => none
  | 1 => some 30
  | 2 => some 120
  | 3 => some 600

/-- The autonomy countdown as a reset loads it (R169). -/
def autonomyCountdown (x : Straps) : Countdown :=
  match autonomySeconds x with
  | none => .idle
  | some sec => loadSeconds sec

/-! ### Resets -/

/-- A reset begins: every output goes to its safe level, every countdown is cancelled, and what was in progress is lost (R168). The blocks hold
their reset values from here on (log entry 10). -/
def State.beginReset (s : State) (kind : ResetCause) : State :=
  State.blank { s.unit with unitState := .held, autonomy := .idle, inReset := some kind } s.free s.pending

/-- A reset ends, in the order of R168: reset values, straps, cause, HELD, the autonomy countdown, and RESET_DONE. -/
def State.endReset (s : State) (cause : ResetCause) (straps : Straps) : State :=
  (State.blank
    { s.unit with
      straps := straps, unitState := .held, autonomy := autonomyCountdown straps, resetCause := cause, inReset := none }
    s.free s.pending).post (.resetDone cause)

/-- A Restart reset: it begins and, once every block has its reset values, ends with the straps kept (R167, R172; log entry 8). -/
def State.restartReset (s : State) : State := s.endReset .restart s.unit.straps

/-- The supply falls below its operating level: a power-on reset begins, or joins the reset in progress as its latest kind (R167). -/
def State.supplyFails (s : State) : State :=
  if s.unit.supplyGood then
    { s with unit := { s.unit with supplyGood := false } }.beginReset .power
  else s

/-- A command's meaning: SUPPLY_FAIL (R167). -/
def execSupplyFail (s : State) : Host.Outcome State Fault Refusal := .next s.supplyFails

/-- The supply rises to its operating level: a power-on reset begins and, with RST high, ends. With RST low, recognised or
not, it lasts until RST is released (R167). -/
def State.supplyRises (s : State) (pins : Pins) : State :=
  if s.unit.supplyGood then s
  else
    let s : State :=
      { s with
        unit :=
          { s.unit with
            supplyGood := true, rstHigh := pins.rstHigh, rstRecognised := s.unit.rstRecognised && !pins.rstHigh } }
    if pins.rstHigh then s.endReset .power pins.straps else s.beginReset .power

/-- A command's meaning: SUPPLY_GOOD (R167). -/
def execSupplyGood (pins : Pins) (s : State) : Host.Outcome State Fault Refusal := .next (s.supplyRises pins)

/-- RST has been low for 1 ms: the low is recognised, and a pin reset begins, or joins the reset in progress as its latest kind (R167). -/
def State.rstFalls (s : State) : State :=
  if s.unit.rstRecognised then s
  else { s with unit := { s.unit with rstHigh := false, rstRecognised := true } }.beginReset .pin

/-- A command's meaning: RST_LOW (R167). -/
def execRstLow (s : State) : Host.Outcome State Fault Refusal := .next s.rstFalls

/-- RST returns high: with the supply good the reset in progress ends, recording the kind that began last (R167). -/
def State.rstRises (s : State) (pins : Straps) : State :=
  if s.unit.rstHigh then s
  else
    let s : State := { s with unit := { s.unit with rstHigh := true, rstRecognised := false } }
    if s.unit.supplyGood then s.endReset (s.unit.inReset.getD .pin) pins else s

/-- A command's meaning: RST_HIGH (R167). -/
def execRstHigh (pins : Straps) (s : State) : Host.Outcome State Fault Refusal := .next (s.rstRises pins)

/-! ### Entry to RUNNING -/

/-- A DORMANT port leaves DORMANT: to SEARCH with admin ENABLED in the profile in force, to DISABLED otherwise (R4, R170). -/
def State.wakePort (s : State) (p : Port) : State :=
  if (s.port p).state = .dormant then
    if (s.portSettings p).admin then s.enterSearch p else s.updPort p fun r => r.enter .disabled
  else s

/-- Entry to RUNNING, in the order of R170; `notice` is AUTONOMOUS_START at the autonomy expiry and none at a Commission. -/
def State.enterRunning (s : State) (profile : Fin 2) (notice : Option NoticeBody) : State :=
  let s : State :=
    { s with
      settings := { s.settings with inForce := profile }
      unit := { s.unit with unitState := .running, autonomy := .idle } }
  let s := match notice with
    | some n => s.post n
    | none => s
  (allPorts.foldl State.wakePort s).evaluate .setting

/-- The autonomy countdown expires in HELD: RUNNING with profile 0 in force, and AUTONOMOUS_START (R170). -/
def State.expireAutonomy (s : State) : State :=
  if s.unit.unitState = .held ∧ s.unit.autonomy.expired then
    s.enterRunning 0 (some (.autonomousStart ((autonomySeconds s.unit.straps).getD 0)))
  else s

/-- A command's meaning: AUTONOMY_EXPIRY (R170). -/
def execAutonomyExpiry (s : State) : Host.Outcome State Fault Refusal := taken s (·.expireAutonomy)

end Sys2Proof.Machine
end

