-- ==== Sys2Proof/Machine/Replies.lean ====
section
/-! DEFINITION. The bodies of the replies that report state, byte by byte, and the reply frame (R12, R77, R104, R121, R139, R159, R161, R163, R175,
R176; section 11.3, section 11.4). Each content starts after the status byte. -/

namespace Sys2Proof.Machine

/-- A present field's byte, or the marker of an absent one. -/
def orAbsent (x : Option Nat) : Byte := byteOf (x.getD 0xFF)

/-- A power in 50 mW units, 0 when absent (R175). -/
def in50 (x : Option Nat) : List Byte := field16 (x.getD 0 / 50)

/-- A signed number as the low bits of its two's complement, in a field of so many values. -/
def twosComplement (values : Nat) (v : Int) : Nat := (v % values).toNat

/-- The content of an Identify reply (R161, section 11.3). -/
def identifyContent (s : State) : List Byte :=
  field16 Config.partCode
    ++ [byteOf Config.revision, byteOf (unitAddress s.unit.straps), byteOf (flagCode (strapDefault s.unit.straps)),
      byteOf s.unit.straps.auto.val, byteOf (flagCode s.unit.straps.baud), byteOf (unitStateCode s.unit.unitState),
      byteOf (resetCauseCode s.unit.resetCause)]
    ++ field16 s.line.errorCount

/-- The content of a Read Gap reply; bytes 2 to 7 are 0 when the capture is empty (R77, section 11.3). -/
def gapContent (s : State) : List Byte :=
  (match s.supply.capture with
    | none => [0, 0, 0, 0, 0, 0, 0]
    | some g => 1 :: field16 g.duration ++ field16 g.lowest ++ [byteOf g.shed, byteOf (flagCode g.extended)])
    ++ [byteOf s.supply.gapsSinceRead]

/-- The content of a Read Port reply (R12, section 11.3). -/
def portContent (s : State) (p : Port) : List Byte :=
  let r := s.port p
  let x := s.portSettings p
  let link := (ceilingOf p).map s.ceiling
  [byteOf (portNumber p), byteOf (flagCode link.isSome), byteOf (stateCode r.state), byteOf (phaseCode r.recyclePhase),
    orAbsent (r.grade.map (·.val))]
    ++ in50 r.allocation
    ++ [byteOf (flagCode r.capped)]
    ++ in50 r.mark
    ++ [byteOf r.faultCount, byteOf ((r.lastFault.map faultCode).getD 0), byteOf ((r.lockoutCause.map lockoutCode).getD 0),
      byteOf (flagCode r.shortSeen), byteOf r.excursionCount]
    ++ field16 r.peakExcursion
    ++ [orAbsent (link.map fun c => linkCode c.linkState), orAbsent (link.map (·.recycleCount)), byteOf (flagCode x.admin),
      byteOf x.priority.val]
    ++ field16 (x.cap / 50)
    ++ [byteOf x.loss]

/-- The number of ports in a state (R104). -/
def State.portsIn (s : State) (st : PortState) : Nat := s.ports.toList.countP (fun r => r.state == st)

/-- The content of a Read Ledger reply (R104, section 11.3). -/
def ledgerContent (s : State) : List Byte :=
  field24 s.ledger.supplyBudget ++ field24 s.ledger.derate ++ field24 s.settings.supply.guardBand
    ++ field24 s.ledger.available ++ field24 s.committed ++ field24 s.pledged ++ field24 s.topReserve
    ++ field24 (s.ledger.imposedCap.getD 0xFFFFFF)
    ++ [orAbsent (s.supply.activeWindow.map (·.val)), orAbsent (s.supply.candidate.map (·.val))]
    ++ field16 (s.supply.latestVoltage.getD 0)
    ++ [byteOf (twosComplement 256 s.supply.temperature), byteOf (supplyStateCode s.supply.state)]
    ++ allPortStates.map fun st => byteOf (s.portsIn st)

/-- The record of one queue entry: for a RESERVED entry the allocation its port holds, for the others the one a test would compute (R121). -/
def entryBytes (s : State) (e : QueueEntry) : List Byte :=
  let allocation := match e.kind with
    | .reserved => s.allocationOf e.port
    | _ => (s.computeAllocation e.port).1
  let pledge := match e.kind with
    | .marked => (s.port e.port).mark
    | _ => none
  [byteOf (portNumber e.port), byteOf (e.priority.val + 4 * entryKindCode e.kind + 16 * e.passCount), byteOf e.joinRank]
    ++ field16 (allocation / 50) ++ in50 pledge

/-- The most entries one Read Queue reply lists (R121). -/
def queuePage : Nat := 27

/-- The content of a Read Queue reply from a start position (R121, R175). -/
def queueContent (s : State) (start : Nat) : List Byte :=
  let listed := (s.queue.drop (start - 1)).take queuePage
  [byteOf s.queue.length, byteOf s.inrushCount, byteOf s.settings.timing.inrushSlots, byteOf s.settings.timing.passLimit,
    byteOf start, byteOf listed.length]
    ++ listed.flatMap (entryBytes s)

/-- A hold as Read Stack reports it: 0 expired, else the whole milliseconds remaining, at least 1 (R139; log entry 12). -/
def holdRemaining : Countdown → Nat
  | .idle => 0
  | .running n => max n 1
  | .due => 1

/-- The content of a Read Stack reply for a depth (R139, section 11.3). -/
def stackContent (s : State) (depth : Nat) : List Byte :=
  [byteOf s.stack.length, byteOf depth]
    ++ match s.stack[depth - 1]? with
      | none => []
      | some r =>
        [byteOf (shedCauseCode r.cause), byteOf (flagCode r.merged)] ++ field16 (holdRemaining r.hold)
          ++ [byteOf r.entries.length] ++ field24 r.total
          ++ r.entries.flatMap fun e => byteOf (portNumber e.port) :: in50 (some e.allocation)

/-- A notice kind's code, port number and two values (section 11.4). -/
def NoticeBody.fields : NoticeBody → Nat × Nat × Nat × Nat
  | .resetDone cause => (1, 0, resetCauseCode cause, 0)
  | .autonomousStart sec => (2, 0, sec, 0)
  | .portFault p cause count => (3, portNumber p, faultCode cause, count)
  | .portLockout p cause => (4, portNumber p, lockoutCode cause, 0)
  | .shed cause ports total => (5, 0, shedCauseCode cause + 256 * ports, total)
  | .windowChange w budget _ => (6, 0, w.val, budget)
  | .gapBegin v => (7, 0, v, 0)
  | .rideLimit d => (8, 0, 0, d)
  | .sensorFaultReported => (9, 0, 1, 0)
  | .sensorOutOfRange v => (9, 0, 2, twosComplement 16777216 v)
  | .deviceFound p g => (10, portNumber p, g.val, 0)
  | .deviceGone p left released => (11, portNumber p, stateCode left, released / 50)
  | .portShortSeen p => (12, portNumber p, 0, 0)
  | .restored ports total => (13, 0, ports, total)
  | .gapEnd lowest d => (14, 0, lowest, d)
  | .excursions p raised peak => (15, portNumber p, raised, peak)
  | .linkChange c st => (16, portNumber (ceilingPort c), linkCode st, 0)
  | .recycled c count forced => (17, portNumber (ceilingPort c), count + 256 * flagCode forced, 0)

/-- A notice's 11 bytes; bit 7 of the kind byte is its class (R176, section 11.4). -/
def noticeBytes (n : Notice) : List Byte :=
  let f := n.body.fields
  byteOf (f.1 + 128 * flagCode n.body.urgent) :: field32 n.stamp ++ [byteOf f.2.1] ++ field16 f.2.2.1 ++ field24 f.2.2.2

/-- The content of a Take Notices reply: the notices removed, the overflow flag as it stood, and the counts still held (R163, R176). -/
def noticesContent (removed : List Notice) (overflow : Bool) (urgent routine : Nat) : List Byte :=
  [byteOf removed.length, byteOf (flagCode overflow), byteOf urgent, byteOf routine] ++ removed.flatMap noticeBytes

/-- The bytes of a reply frame, SYNC first: the unit address plus 0x80, the request's kind, the length, the body and its CRC (R155, R159). -/
def Reply.frame (r : Reply) (address : Nat) : List Byte :=
  let a := byteOf (address + 0x80)
  syncByte :: frameAfterSync a r.kind r.body (crc16 (frameCore a r.kind r.body))

/-- The frame the part transmits while its driver is enabled (R153, R159). -/
def State.transmitted (s : State) : Option (List Byte) :=
  if s.line.driver then s.line.reply.map fun r => r.frame (unitAddress s.unit.straps) else none

end Sys2Proof.Machine
end

