-- ==== Sys2Proof/Machine/Supply.lean ====
section
/-! DEFINITION. The Supply Monitor: windows and settling, the line-present filter, the gap sequence, the gap measurement and capture, and temperature
(chapter 4), with the meanings of its commands. -/

namespace Sys2Proof.Machine

/-- Change the Supply Monitor's own state. -/
def State.updSupply (s : State) (f : SupplyMonitor → SupplyMonitor) : State := { s with supply := f s.supply }

/-! ### Windows -/

/-- Whether an enabled window holds a voltage: low ≤ V < high (R63). -/
def Window.holds (w : Window) (v : Nat) : Bool := w.enabled && decide (w.low ≤ v ∧ v < w.high)

/-- The window a voltage matches: the lowest-numbered of 1 to 4 that holds it, else window 0 (R63). -/
def Settings.matchWindow (g : Settings) (v : Nat) : WindowIndex :=
  (([1, 2, 3, 4] : List WindowIndex).find? fun w =>
    if h : w.val = 0 then false else (g.windows.get ⟨w.val - 1, by omega⟩).holds v).getD 0

/-- Make a window active, ending any settling, with its WINDOW_CHANGE (R67, R69). -/
def State.switchWindow (s : State) (w : WindowIndex) (fell : Bool) : State :=
  (s.updSupply fun m => { m with activeWindow := some w, candidate := none, settle := .idle }).post
    (.windowChange w (s.settings.windowBudget w) fell)

/-- The window rules R66 to R68 for the window a voltage matches; answers whether the active window was switched, so that an evaluation
follows. The first voltage after a reset makes its window active at once, without a notice (R67). -/
def State.windowRules (s : State) (w : WindowIndex) : State × Bool :=
  match s.supply.activeWindow with
  | none => (s.updSupply fun m => { m with activeWindow := some w, candidate := none, settle := .idle }, true)
  | some a =>
    if w = a then (s.updSupply fun m => { m with candidate := none, settle := .idle }, false)
    else if s.settings.windowBudget w ≤ s.settings.windowBudget a then
      (s.switchWindow w (decide (s.settings.windowBudget w < s.settings.windowBudget a)), true)
    else if s.supply.candidate = some w then (s, false)
    else if s.settings.supply.settleTime = 0 then (s.switchWindow w false, true)
    else
      (s.updSupply fun m => { m with candidate := some w, settle := loadMs s.settings.supply.settleTime }, false)

/-- Offer a voltage to the gap measurement's lowest-voltage tracker; an empty lowest voltage is filled (R61, R75). -/
def GapMeasurement.track (m : GapMeasurement) (v : Nat) : GapMeasurement :=
  { m with lowest := some (match m.lowest with | none => v | some l => min l v) }

/-- A voltage sample: taken as at most 1500 dV, it becomes the latest voltage, feeds a gap's lowest voltage and passes through the window
rules; a switch is followed by one evaluation (R61). -/
def State.takeVoltage (s : State) (decivolts : Nat) : State :=
  let v := min decivolts 1500
  let s := s.updSupply fun m => { m with latestVoltage := some v, measurement := m.measurement.map (·.track v) }
  let r := s.windowRules (s.settings.matchWindow v)
  if r.2 then r.1.evaluate .window else r.1

/-- A command's meaning: VOLTAGE_SAMPLE (R61). -/
def execVoltageSample (decivolts : Nat) (s : State) : Host.Outcome State Fault Refusal :=
  taken s (·.takeVoltage decivolts)

/-- The settle countdown expires: the candidate becomes active, WINDOW_CHANGE is posted as ROUTINE and the Ledger evaluates (R69). -/
def State.expireSettle (s : State) : State :=
  match s.supply.settle.expired, s.supply.candidate with
  | true, some w => (s.switchWindow w false).evaluate .window
  | _, _ => s

/-- A command's meaning: SETTLE_EXPIRY (R69). -/
def execSettleExpiry (s : State) : Host.Outcome State Fault Refusal := taken s (·.expireSettle)

/-! ### Gaps -/

/-- An accepted loss, taken in PRESENT or RECOVERY, begins a gap (R71). -/
def State.beginGap (s : State) : State :=
  let s := s.updSupply fun m =>
    { m with
      state := .gapRide, recovery := .idle, recoveryCap := none
      measurement := some ⟨s.now, m.latestVoltage, 0, false⟩
      rideLimit := loadSeconds s.settings.supply.rideLimit }
  (s.post (.gapBegin (s.supply.latestVoltage.getD 0))).evaluate .gapRide

/-- The milliseconds counted on the timebase since a gap's accepted loss (R72, R75). DESIGN CHOICE, log entry 30: at the ride limit's own expiry this
is one tick more than the limit (60 001 ms for 60 s), where R1 allows n to n+1 ms and the example of section 4.12 shows n. -/
def State.gapLength (s : State) : Nat := s.now - (s.supply.measurement.map (·.start)).getD s.now

/-- The ride-limit countdown expires in GAP_RIDE: GAP_EXTENDED, RIDE_LIMIT posted with the duration so far, one evaluation (R72). -/
def State.expireRideLimit (s : State) : State :=
  if s.supply.rideLimit.expired then
    let s := s.updSupply fun m => { m with rideLimit := .idle }
    if s.supply.state = .gapRide then
      let s := s.updSupply fun m =>
        { m with state := .gapExtended, measurement := m.measurement.map fun g => { g with extended := true } }
      (s.post (.rideLimit s.gapLength)).evaluate .gapExtended
    else s
  else s

/-- A command's meaning: RIDE_LIMIT_EXPIRY (R72). -/
def execRideLimitExpiry (s : State) : Host.Outcome State Fault Refusal := taken s (·.expireRideLimit)

/-- The completed measurement: the duration saturates at 65 535 and an empty lowest voltage is 0 dV (R75). -/
def State.completedGap (s : State) : GapCapture :=
  match s.supply.measurement with
  | none => ⟨0, 0, 0, false⟩
  | some g => ⟨min (s.now - g.start) 65535, g.lowest.getD 0, g.shed, g.extended⟩

/-- Count a gap that ends and offer its measurement to the capture, which keeps an earlier one (R76). -/
def SupplyMonitor.captureGap (m : SupplyMonitor) (g : GapCapture) : SupplyMonitor :=
  { m with
    gapsSinceRead := min (m.gapsSinceRead + 1) 255
    capture := match m.capture with | none => some g | some old => some old
    measurement := none }

/-- The supply returns to PRESENT: the disturbed flag is cleared, the recovery cap goes and the Ledger evaluates without a gap cap (R74). -/
def State.endRecovery (s : State) : State :=
  (s.updSupply fun m => { m with state := .present, recoveryCap := none, recovery := .idle }).evaluate .window

/-- The cause of the evaluation an accepted return starts, as the recovery cap records (R100). -/
def returnCause : CapKind → ShedCause
  | .ride => .gapRide
  | .extended => .gapExtended

/-- An accepted return, taken in GAP_RIDE or GAP_EXTENDED, ends the gap with that state's cap held (R73). With a recovery delay of 0 the recovery
expiry is taken at once and its evaluation is the only one. -/
def State.endGap (s : State) (cap : CapKind) : State :=
  let g := s.completedGap
  let s := s.updSupply fun m =>
    { m.captureGap g with rideLimit := .idle, recoveryCap := some cap, state := .recovery }
  let s := s.post (.gapEnd g.lowest g.duration)
  if s.settings.supply.recoveryDelay = 0 then s.endRecovery
  else
    (s.updSupply fun m => { m with recovery := loadMs s.settings.supply.recoveryDelay }).evaluate (returnCause cap)

/-- An accepted change of the line is handed to the gap sequence (R70, R71, R73). -/
def State.lineChanged (s : State) (present : Bool) : State :=
  match present, s.supply.state with
  | false, .present => s.beginGap
  | false, .recovery => s.beginGap
  | true, .gapRide => s.endGap .ride
  | true, .gapExtended => s.endGap .extended
  | _, _ => s

/-- A line-present sample runs the three-sample filter; an accepted change is handed on (R70). -/
def State.takeLine (s : State) (present : Bool) : State :=
  if present = s.supply.linePresent then s.updSupply fun m => { m with lineRun := 0 }
  else if s.supply.lineRun + 1 < 3 then s.updSupply fun m => { m with lineRun := m.lineRun + 1 }
  else (s.updSupply fun m => { m with linePresent := present, lineRun := 0 }).lineChanged present

/-- A command's meaning: LINE_PRESENT_SAMPLE (R70). -/
def execLinePresentSample (present : Bool) (s : State) : Host.Outcome State Fault Refusal :=
  taken s (·.takeLine present)

/-- The recovery countdown expires in RECOVERY (R74). -/
def State.expireRecovery (s : State) : State :=
  if s.supply.recovery.expired then
    if s.supply.state = .recovery then s.endRecovery else s.updSupply fun m => { m with recovery := .idle }
  else s

/-- A command's meaning: RECOVERY_EXPIRY (R74). -/
def execRecoveryExpiry (s : State) : Host.Outcome State Fault Refusal := taken s (·.expireRecovery)

/-! ### Temperature -/

/-- The fault notice of a temperature sample, none for a good one (R78). -/
def sensorFaultNotice : TempSample → Option NoticeBody
  | .faultReport => some .sensorFaultReported
  | .reading v => if -40 ≤ v ∧ v ≤ 125 then none else some (.sensorOutOfRange v)

/-- The temperature a sample is taken as: +125 °C for a faulty one (R78). -/
def temperatureTaken (t : TempSample) : Int :=
  match t with
  | .faultReport => 125
  | .reading v => if -40 ≤ v ∧ v ≤ 125 then v else 125

/-- A temperature sample: T, the sensor fault run with one notice per run, and an evaluation if the derate changes (R78, R79). -/
def State.takeTemperature (s : State) (t : TempSample) : State :=
  let before := s.computeD
  let run := s.supply.sensorFaultRun
  let s := s.updSupply fun m =>
    { m with temperature := temperatureTaken t, sensorFaultRun := (sensorFaultNotice t).isSome }
  let s := match sensorFaultNotice t with
    | some n => if run then s else s.post n
    | none => s
  if s.computeD = before then s else s.evaluate .derate

/-- A command's meaning: TEMPERATURE_SAMPLE (R78). -/
def execTemperatureSample (t : TempSample) (s : State) : Host.Outcome State Fault Refusal :=
  taken s (·.takeTemperature t)

end Sys2Proof.Machine
end

