-- ==== Sys2Proof/Machine/Requests.lean ====
section
/-! DEFINITION. What each request does once its frame is taken: its checks in their order, its effects, its status and its reply content (R158, R160,
section 9.6 and the owning rules). -/

namespace Sys2Proof.Machine

/-- The outcome of a request's taking: the status, the content after it, and the state with the effects made (R158, R160). -/
structure Answer where
  status : Status
  content : List Byte
  state : State
  deriving DecidableEq, Repr

/-- A refused request changes nothing and reports its status alone (R160). -/
def refuse (s : State) (st : Status) : Answer := ⟨st, [], s⟩

/-- An accepted request that reports nothing but its status (R160). -/
def accept (changed : Bool) (s : State) : Answer := ⟨acceptedStatus changed, [], s⟩

/-- An accepted request with content (R160). -/
def report (content : List Byte) (s : State) : Answer := ⟨.done, content, s⟩

/-- Change the Management Line Interface's own state. -/
def State.updLine (s : State) (f : Line → Line) : State := { s with line := f s.line }

/-! ### Identify, Commission, Restart -/

/-- Identify: the report, then the count cleared if the flag says so (R161). -/
def answerIdentify (body : List Byte) (s : State) : Answer :=
  if body.length ≠ 1 then refuse s .badFrame
  else
    match flagOfByte (byteAt body 0) with
    | none => refuse s .badField
    | some clear =>
      report (identifyContent s) (s.updLine fun l => { l with errorCount := if clear then 0 else l.errorCount })

/-- Commission (R171). -/
def answerCommission (body : List Byte) (s : State) : Answer :=
  if body.length ≠ 1 then refuse s .badFrame
  else
    match profileOfByte (byteAt body 0) with
    | none => refuse s .badIndex
    | some i =>
      match s.unit.unitState with
      | .running => refuse s .wrongState
      | .held => accept false (s.enterRunning i none)

/-- Restart: its reset waits for the end of the reply, or for the taking of a broadcast (R159, R172). -/
def answerRestart (body : List Byte) (s : State) : Answer :=
  if body.length ≠ 0 then refuse s .badFrame
  else accept false (s.updLine fun l => { l with restartPending := true })

/-! ### Settings -/

/-- Write one port's settings in one profile; in the profile in force while RUNNING, an admin difference acts first and a priority difference
second, and one evaluation follows a priority change (R15, R16, R18). -/
def State.storePort (s : State) (i : Fin 2) (p : Port) (new : PortSettings) : State :=
  let old := (s.settings.profiles.get i).get p
  let s : State := { s with settings := s.settings.writePort i p new }
  if i = s.settings.inForce ∧ s.unit.unitState = .running then
    let r := if new.admin = old.admin then (s, FollowUp.none) else s.applyAdmin p new.admin
    if new.priority = old.priority then r.1.follow r.2
    else (r.1.applyPriority p new.priority).evaluate .setting
  else s

/-- Set Port (R15). -/
def answerSetPort (body : List Byte) (s : State) : Answer :=
  if body.length ≠ 9 then refuse s .badFrame
  else
    match profileOfByte (byteAt body 0) with
    | none => refuse s .badIndex
    | some i =>
      match portOfByte (byteAt body 1) with
      | none => refuse s .badPort
      | some p =>
        match flagOfByte (byteAt body 2), priorityOfByte (byteAt body 3) with
        | some admin, some priority =>
          let x := carriedPort body admin priority
          accept (x.take != x) (s.storePort i p x.take)
        | _, _ => refuse s .badField

/-- Set Grades (R13). -/
def answerSetGrades (body : List Byte) (s : State) : Answer :=
  if body.length ≠ 14 then refuse s .badFrame
  else
    let g := carriedGrades body
    accept (takeGrades g != g) { s with settings := { s.settings with grades := takeGrades g } }

/-- Store timing settings; a change of the inrush slots makes one arbiter run (R44, R112). -/
def State.storeTiming (s : State) (t : Timing) : State :=
  let before := s.settings.timing.inrushSlots
  let s : State := { s with settings := { s.settings with timing := t } }
  if t.inrushSlots = before then s else s.arbiterRun

/-- Set Timing (R44). -/
def answerSetTiming (body : List Byte) (s : State) : Answer :=
  if body.length ≠ 19 then refuse s .badFrame
  else
    let t := carriedTiming body
    accept (t.take != t) (s.storeTiming t.take)

/-- Store supply settings, with the evaluation that follows (R80). -/
def State.storeSupply (s : State) (g : SupplySettings) : State :=
  State.evaluate { s with settings := { s.settings with supply := g } } .setting

/-- Set Supply (R80, R87). -/
def answerSetSupply (body : List Byte) (s : State) : Answer :=
  if body.length ≠ 22 then refuse s .badFrame
  else
    let g := carriedSupply body
    accept (g.take != g) (s.storeSupply g.take)

/-- The latest voltage taken again by the new table; a switch it makes has no evaluation of its own (R65). -/
def State.rematch (s : State) : State :=
  match s.supply.latestVoltage with
  | none => s
  | some v => (s.windowRules (s.settings.matchWindow v)).1

/-- Store the default budget, with the re-match and the one evaluation (R64, R65). -/
def State.storeDefaultBudget (s : State) (budget : Nat) : State :=
  (State.rematch { s with settings := { s.settings with defaultBudget := budget } }).evaluate .setting

/-- Store one of windows 1 to 4, with the re-match and the one evaluation (R64, R65). -/
def State.storeWindow (s : State) (place : Fin 4) (w : Window) : State :=
  (State.rematch
    { s with settings := { s.settings with windows := s.settings.windows.set place.val w place.isLt } }).evaluate .setting

/-- Set Window for index 0: the default budget alone (R64). -/
def answerDefaultBudget (body : List Byte) (s : State) : Answer :=
  if body.length ≠ 4 then refuse s .badFrame
  else
    let budget := read24 body 1
    accept (takeBudget budget != budget) (s.storeDefaultBudget (takeBudget budget))

/-- Set Window for index 1 to 4 (R64): a window left enabled needs its low bound below its high bound. -/
def answerWindow (place : Fin 4) (body : List Byte) (s : State) : Answer :=
  if body.length ≠ 9 then refuse s .badFrame
  else
    match flagOfByte (byteAt body 1) with
    | none => refuse s .badField
    | some enabled =>
      let w := carriedWindow body enabled
      if enabled ∧ w.take.high ≤ w.take.low then refuse s .badField
      else accept (w.take != w) (s.storeWindow place w.take)

/-- Set Window: the index is judged before the length (R64, R174). -/
def answerSetWindow (body : List Byte) (s : State) : Answer :=
  match body with
  | [] => refuse s .badFrame
  | b :: _ =>
    match windowOfByte b.toNat with
    | none => refuse s .badIndex
    | some w =>
      if h : w.val = 0 then answerDefaultBudget body s else answerWindow ⟨w.val - 1, by omega⟩ body s

/-- Put a profile in force; while RUNNING the differences are applied in three passes: admin, priority, one evaluation (R20). -/
def State.switchProfile (s : State) (i : Fin 2) : State :=
  let old := s.settings.profiles.get s.settings.inForce
  let new := s.settings.profiles.get i
  let s : State := { s with settings := { s.settings with inForce := i } }
  match s.unit.unitState with
  | .held => s
  | .running =>
    let s := allPorts.foldl
      (fun s p => if (new.get p).admin = (old.get p).admin then s else (s.applyAdmin p (new.get p).admin).1) s
    let s := allPorts.foldl
      (fun s p => if (new.get p).priority = (old.get p).priority then s else s.applyPriority p (new.get p).priority) s
    s.evaluate .setting

/-- Select Profile (R20). -/
def answerSelectProfile (body : List Byte) (s : State) : Answer :=
  if body.length ≠ 1 then refuse s .badFrame
  else
    match profileOfByte (byteAt body 0) with
    | none => refuse s .badIndex
    | some i => accept false (s.switchProfile i)

/-! ### Port Command -/

/-- Write a port's admin setting in the profile in force (R40). -/
def State.writeAdmin (s : State) (p : Port) (admin : Bool) : State :=
  { s with settings := s.settings.writePort s.settings.inForce p { s.portSettings p with admin := admin } }

/-- ENABLE (R40). -/
def answerEnable (p : Port) (s : State) : Answer := accept false ((s.writeAdmin p true).enablePort p)

/-- DISABLE, with the run its effects ask for (R40, R16, R109, R137). -/
def answerDisable (p : Port) (s : State) : Answer :=
  let r := (s.writeAdmin p false).disablePort p
  accept false (r.1.follow r.2)

/-- A CEILING port's recycle count becomes 0; a SEAT port has none (R41). -/
def State.clearRecycleCount (s : State) (p : Port) : State :=
  match ceilingOf p with
  | some c => s.updCeiling c fun r => { r with recycleCount := 0 }
  | none => s

/-- CLEAR (R41). -/
def answerClear (p : Port) (s : State) : Answer :=
  match (s.port p).state with
  | .lockout => accept false (((s.updPort p fun r => { r with faultCount := 0 }).clearRecycleCount p).enterSearch p)
  | .faultHold => accept false (s.updPort p fun r => { r with faultCount := 0 })
  | _ => refuse s .wrongState

/-- A forced recycle: the count is neither raised nor compared (R151). -/
def State.recycleForced (s : State) (c : Ceiling) : State :=
  (s.enterRecycle (ceilingPort c)).post (.recycled c (s.ceiling c).recycleCount true)

/-- RECYCLE (R151). -/
def answerRecycle (p : Port) (s : State) : Answer :=
  match ceilingOf p with
  | none => refuse s .notCeiling
  | some c => if (s.port p).state = .on then accept false (s.recycleForced c) else refuse s .wrongState

/-- What each Port Command does to its port (section 2.10, section 8.4). -/
def answerCommand : PortCommand → Port → State → Answer
  | .enable => answerEnable
  | .disable => answerDisable
  | .clear => answerClear
  | .recycle => answerRecycle

/-- Port Command, checked in the order of R39; a byte that a check would read and that is missing is a BAD_FRAME (R174). -/
def answerPortCommand (body : List Byte) (s : State) : Answer :=
  match s.unit.unitState, body with
  | .held, _ => refuse s .held
  | .running, [] => refuse s .badFrame
  | .running, b :: rest =>
    match portOfByte b.toNat, rest with
    | none, _ => refuse s .badPort
    | some _, [] => refuse s .badFrame
    | some p, c :: extra =>
      match commandOfByte c, extra with
      | none, _ => refuse s .badField
      | some _, _ :: _ => refuse s .badFrame
      | some k, [] => answerCommand k p s

/-! ### Shed To -/

/-- Set or remove the imposed cap, with its evaluation (R88). -/
def State.impose (s : State) (cap : Option Nat) : State :=
  State.evaluate { s with ledger := { s.ledger with imposedCap := cap } } .imposed

/-- Shed To (R88): with the selector NONE the cap bytes are not read (R174). -/
def answerShedTo (body : List Byte) (s : State) : Answer :=
  if body.length ≠ 4 then refuse s .badFrame
  else
    match flagOfByte (byteAt body 0) with
    | none => refuse s .badField
    | some false => accept false (s.impose none)
    | some true =>
      let cap := read24 body 1
      accept (clamp 0 maxBudget cap != cap) (s.impose (some (clamp 0 maxBudget cap)))

/-! ### The reads -/

/-- Read Port: the peak excursion is reported, then cleared if the flag says so (R12). -/
def answerReadPort (body : List Byte) (s : State) : Answer :=
  if body.length ≠ 2 then refuse s .badFrame
  else
    match portOfByte (byteAt body 0), flagOfByte (byteAt body 1) with
    | none, _ => refuse s .badPort
    | some _, none => refuse s .badField
    | some p, some clear =>
      report (portContent s p)
        (s.updPort p fun r => { r with peakExcursion := if clear then 0 else r.peakExcursion })

/-- Read Ledger (R104). -/
def answerReadLedger (body : List Byte) (s : State) : Answer :=
  if body.length ≠ 0 then refuse s .badFrame else report (ledgerContent s) s

/-- Read Queue (R121). -/
def answerReadQueue (body : List Byte) (s : State) : Answer :=
  if body.length ≠ 1 then refuse s .badFrame
  else if 1 ≤ byteAt body 0 ∧ byteAt body 0 ≤ 56 then report (queueContent s (byteAt body 0)) s
  else refuse s .badIndex

/-- Read Stack (R139). -/
def answerReadStack (body : List Byte) (s : State) : Answer :=
  if body.length ≠ 1 then refuse s .badFrame
  else if 1 ≤ byteAt body 0 ∧ byteAt body 0 ≤ 6 then report (stackContent s (byteAt body 0)) s
  else refuse s .badIndex

/-- Read Gap: the capture is reported, then emptied, and the count becomes 0 (R77). -/
def answerReadGap (body : List Byte) (s : State) : Answer :=
  if body.length ≠ 0 then refuse s .badFrame
  else report (gapContent s) (s.updSupply fun m => { m with capture := none, gapsSinceRead := 0 })

/-- Remove notices up to a maximum: URGENT first, then ROUTINE, each oldest first; the overflow flag is cleared (R163). -/
def NoticeQueue.remove (q : NoticeQueue) (count : Nat) : List Notice × NoticeQueue :=
  let rest := count - q.urgent.length
  (q.urgent.take count ++ q.routine.take rest, ⟨q.urgent.drop count, q.routine.drop rest, false⟩)

/-- Take Notices (R163). -/
def answerTakeNotices (body : List Byte) (s : State) : Answer :=
  if body.length ≠ 1 then refuse s .badFrame
  else
    let carried := byteAt body 0
    let r := s.notices.remove (clamp 1 8 carried)
    ⟨acceptedStatus (clamp 1 8 carried != carried),
      noticesContent r.1 s.notices.overflow r.2.urgent.length r.2.routine.length, { s with notices := r.2 }⟩

/-! ### The requests together -/

/-- The handler of each request kind (section 9.6). -/
def handler : RequestKind → List Byte → State → Answer
  | .identify => answerIdentify
  | .commission => answerCommission
  | .restart => answerRestart
  | .setPort => answerSetPort
  | .setGrades => answerSetGrades
  | .setTiming => answerSetTiming
  | .setSupply => answerSetSupply
  | .setWindow => answerSetWindow
  | .selectProfile => answerSelectProfile
  | .portCommand => answerPortCommand
  | .shedTo => answerShedTo
  | .readPort => answerReadPort
  | .readLedger => answerReadLedger
  | .readQueue => answerReadQueue
  | .readStack => answerReadStack
  | .readGap => answerReadGap
  | .takeNotices => answerTakeNotices

/-- The answer to a frame of any kind sent to the unit; an unknown kind is a BAD_FRAME (R158). -/
def answerKind (kind : Byte) (body : List Byte) (s : State) : Answer :=
  match kindOfCode kind with
  | some k => handler k body s
  | none => refuse s .badFrame

end Sys2Proof.Machine
end

