-- ==== Sys2Proof/Machine/Receiver.lean ====
section
/-! DEFINITION. The line receiver, addressing, the taking of requests and the end of replies (R153 to R159), and the meanings of the commands of the
management line, one for each row. -/

namespace Sys2Proof.Machine

/-! ### The receiver -/

/-- The receiver returns to hunting with its buffer empty and the byte-gap countdown not loaded (R154). -/
def State.hunt (s : State) : State := s.updLine fun l => { l with receiver := .hunting, buffer := [], byteGap := .idle }

/-- A frame is discarded: hunting, and the line error count raised by 1, saturating (R154, R156). -/
def State.discard (s : State) : State :=
  s.hunt.updLine fun l => { l with errorCount := min (l.errorCount + 1) 65535 }

/-- The receiver closes with a reply in the reply buffer that has not begun (R154, R158). -/
def State.withReply (s : State) (kind : Byte) (status : Status) (content : List Byte) : State :=
  s.updLine fun l =>
    { l with
      receiver := .closed, buffer := [], byteGap := .idle, reply := some ⟨kind, statusCode status :: content⟩
      replyAge := 0, driver := false }

/-- A request to this unit is taken: its effects are made, the receiver closes, and the reply is built (R158, R159). -/
def State.takeOwn (s : State) (kind : Byte) (body : List Byte) : State :=
  let a := answerKind kind body s
  a.state.withReply kind a.status a.content

/-- A broadcast of a capable kind is taken without a reply, and a Restart it accepted resets the unit at once (R157, R158, R159). -/
def State.takeBroadcast (s : State) (k : RequestKind) (body : List Byte) : State :=
  let s := (handler k body s).state.hunt
  if s.line.restartPending then s.restartReset else s

/-- A good frame is acted on by its address (R157). -/
def State.goodFrame (s : State) (addr kind : Byte) (body : List Byte) : State :=
  if addr.toNat = unitAddress s.unit.straps then s.takeOwn kind body
  else if addr = 0 then
    match kindOfCode kind with
    | some k => if broadcastCapable k then s.takeBroadcast k body else s.hunt
    | none => s.hunt
  else s.hunt

/-- A complete frame is checked: a CRC that differs discards it, whatever its address (R155). -/
def State.checkFrame (s : State) (addr kind : Byte) (body : List Byte) (received : BitVec 16) : State :=
  if received = crc16 (frameCore addr kind body) then s.goodFrame addr kind body else s.discard

/-- What the bytes collected so far ask for: more bytes, a discard for a length above 200, or the check of a complete frame (R154). -/
def State.examine (s : State) : State :=
  match s.line.buffer with
  | addr :: kind :: len :: rest =>
    if Config.maxBody < len.toNat then s.discard
    else if rest.length = len.toNat + 2 then
      let body := rest.take len.toNat
      s.checkFrame addr kind body (BitVec.ofNat 16 (read16 rest len.toNat))
    else s
  | _ => s

/-- The receiver takes a byte (R154). -/
def State.takeByte (s : State) (b : Byte) (framingError : Bool) : State :=
  match s.line.receiver with
  | .hunting =>
    if b = syncByte ∧ framingError = false then
      s.updLine fun l => { l with receiver := .collecting, buffer := [], byteGap := loadMs Config.byteGap }
    else s
  | .collecting =>
    if framingError then s.discard
    else (s.updLine fun l => { l with buffer := l.buffer ++ [b], byteGap := loadMs Config.byteGap }).examine
  | .closed => s

/-- A command's meaning: LINE_BYTE (R154). -/
def execLineByte (b : Byte) (framingError : Bool) (s : State) : Host.Outcome State Fault Refusal :=
  taken s (·.takeByte b framingError)

/-- The bytes of a frame after SYNC, taken one at a time without a framing error. -/
def State.takeBytes (s : State) (bytes : List Byte) : State := bytes.foldl (fun s b => s.takeByte b false) s

/-- A whole frame arrives, SYNC first. A closed receiver ignores its bytes. A hunting one takes the frame as a whole: its check is all that its bytes
come to. A collecting one takes the bytes into the frame it is collecting (log entry 5); so does any that gets a body no frame can carry
(log entry 22). -/
def State.arrive (s : State) (addr kind : Byte) (body : List Byte) (crc : BitVec 16) : State :=
  match s.line.receiver with
  | .closed => s
  | .hunting =>
    if body.length ≤ Config.maxBody then s.checkFrame addr kind body crc
    else s.takeBytes (syncByte :: frameAfterSync addr kind body crc)
  | .collecting => s.takeBytes (syncByte :: frameAfterSync addr kind body crc)

/-- The address byte of a request's destination (R157). -/
def State.addressOf (s : State) : Dest → Byte
  | .own => byteOf (unitAddress s.unit.straps)
  | .broadcast => 0

/-- A request's frame arrives with its CRC right (R155, R157). -/
def State.request (s : State) (d : Dest) (k : RequestKind) (body : List Byte) : State :=
  let addr := s.addressOf d
  s.arrive addr (kindCode k) body (crc16 (frameCore addr (kindCode k) body))

/-! ### The requests, one command each -/

/-- A command's meaning: IDENTIFY (R161). -/
def execIdentify (d : Dest) (body : List Byte) (s : State) : Host.Outcome State Fault Refusal :=
  taken s (·.request d .identify body)

/-- A command's meaning: COMMISSION (R171). -/
def execCommission (d : Dest) (body : List Byte) (s : State) : Host.Outcome State Fault Refusal :=
  taken s (·.request d .commission body)

/-- A command's meaning: RESTART (R172). -/
def execRestart (d : Dest) (body : List Byte) (s : State) : Host.Outcome State Fault Refusal :=
  taken s (·.request d .restart body)

/-- A command's meaning: SET_PORT (R15). -/
def execSetPort (d : Dest) (body : List Byte) (s : State) : Host.Outcome State Fault Refusal :=
  taken s (·.request d .setPort body)

/-- A command's meaning: SET_GRADES (R13). -/
def execSetGrades (d : Dest) (body : List Byte) (s : State) : Host.Outcome State Fault Refusal :=
  taken s (·.request d .setGrades body)

/-- A command's meaning: SET_TIMING (R44). -/
def execSetTiming (d : Dest) (body : List Byte) (s : State) : Host.Outcome State Fault Refusal :=
  taken s (·.request d .setTiming body)

/-- A command's meaning: SET_SUPPLY (R80). -/
def execSetSupply (d : Dest) (body : List Byte) (s : State) : Host.Outcome State Fault Refusal :=
  taken s (·.request d .setSupply body)

/-- A command's meaning: SET_WINDOW (R64). -/
def execSetWindow (d : Dest) (body : List Byte) (s : State) : Host.Outcome State Fault Refusal :=
  taken s (·.request d .setWindow body)

/-- A command's meaning: SELECT_PROFILE (R20). -/
def execSelectProfile (d : Dest) (body : List Byte) (s : State) : Host.Outcome State Fault Refusal :=
  taken s (·.request d .selectProfile body)

/-- A command's meaning: ENABLE (R40). -/
def execEnable (d : Dest) (port : Byte) (extra : List Byte) (s : State) : Host.Outcome State Fault Refusal :=
  taken s (·.request d .portCommand (port :: commandEnable :: extra))

/-- A command's meaning: DISABLE (R40). -/
def execDisable (d : Dest) (port : Byte) (extra : List Byte) (s : State) : Host.Outcome State Fault Refusal :=
  taken s (·.request d .portCommand (port :: commandDisable :: extra))

/-- A command's meaning: CLEAR (R41). -/
def execClear (d : Dest) (port : Byte) (extra : List Byte) (s : State) : Host.Outcome State Fault Refusal :=
  taken s (·.request d .portCommand (port :: commandClear :: extra))

/-- A command's meaning: RECYCLE (R151). -/
def execRecycle (d : Dest) (port : Byte) (extra : List Byte) (s : State) : Host.Outcome State Fault Refusal :=
  taken s (·.request d .portCommand (port :: commandRecycle :: extra))

/-- A command's meaning: SHED_TO (R88). -/
def execShedTo (d : Dest) (body : List Byte) (s : State) : Host.Outcome State Fault Refusal :=
  taken s (·.request d .shedTo body)

/-- A command's meaning: READ_PORT (R12). -/
def execReadPort (d : Dest) (body : List Byte) (s : State) : Host.Outcome State Fault Refusal :=
  taken s (·.request d .readPort body)

/-- A command's meaning: READ_LEDGER (R104). -/
def execReadLedger (d : Dest) (body : List Byte) (s : State) : Host.Outcome State Fault Refusal :=
  taken s (·.request d .readLedger body)

/-- A command's meaning: READ_QUEUE (R121). -/
def execReadQueue (d : Dest) (body : List Byte) (s : State) : Host.Outcome State Fault Refusal :=
  taken s (·.request d .readQueue body)

/-- A command's meaning: READ_STACK (R139). -/
def execReadStack (d : Dest) (body : List Byte) (s : State) : Host.Outcome State Fault Refusal :=
  taken s (·.request d .readStack body)

/-- A command's meaning: READ_GAP (R77). -/
def execReadGap (d : Dest) (body : List Byte) (s : State) : Host.Outcome State Fault Refusal :=
  taken s (·.request d .readGap body)

/-- A command's meaning: TAKE_NOTICES (R163). -/
def execTakeNotices (d : Dest) (body : List Byte) (s : State) : Host.Outcome State Fault Refusal :=
  taken s (·.request d .takeNotices body)

/-! ### Other frames, discards and the end of a reply -/

/-- A command's meaning: UNKNOWN_KIND_REQUEST (R158). -/
def execUnknownKindRequest (kind : Byte) (body : List Byte) (s : State) : Host.Outcome State Fault Refusal :=
  taken s fun s =>
    let addr := s.addressOf .own
    s.arrive addr kind body (crc16 (frameCore addr kind body))

/-- A command's meaning: CRC_MISMATCH (R155). -/
def execCrcMismatch (addr kind : Byte) (body : List Byte) (crc : BitVec 16) (s : State) :
    Host.Outcome State Fault Refusal :=
  taken s (·.arrive addr kind body crc)

/-- A command's meaning: GOOD_FRAME_IGNORED (R157). -/
def execGoodFrameIgnored (addr kind : Byte) (body : List Byte) (s : State) : Host.Outcome State Fault Refusal :=
  taken s (·.arrive addr kind body (crc16 (frameCore addr kind body)))

/-- A length above 200 or a framing error is taken: the frame being collected is discarded (R154; log entry 15). -/
def State.faultFrame (s : State) (_fault : FrameFault) : State :=
  if s.line.receiver = .collecting then s.discard else s

/-- A command's meaning: FRAME_FAULT_DISCARD (R154). -/
def execFrameFaultDiscard (fault : FrameFault) (s : State) : Host.Outcome State Fault Refusal :=
  taken s (·.faultFrame fault)

/-- The byte-gap countdown expires while collecting: the frame is discarded (R154). -/
def State.expireByteGap (s : State) : State :=
  if s.line.receiver = .collecting ∧ s.line.byteGap.expired then s.discard else s

/-- A command's meaning: BYTE_GAP_EXPIRY (R154). -/
def execByteGapExpiry (s : State) : Host.Outcome State Fault Refusal := taken s (·.expireByteGap)

/-- The last stop bit of a reply has been sent: the driver is off, the receiver opens, hunting, and an accepted Restart begins its reset (R159,
R167). -/
def State.endReply (s : State) : State :=
  match s.line.reply with
  | none => s
  | some _ =>
    let s := s.hunt.updLine fun l => { l with reply := none, replyAge := 0, driver := false }
    if s.line.restartPending then s.restartReset else s

/-- A command's meaning: REPLY_SENT (R159). -/
def execReplySent (s : State) : Host.Outcome State Fault Refusal := taken s (·.endReply)

end Sys2Proof.Machine
end

