-- ==== Sys2Proof/Machine/Dispatch.lean ====
section
/-! DEFINITION. The meaning of each command, by a direct call of its own definition. -/

namespace Sys2Proof.Machine

/-- What a command does to everything but the queue of waiting commands. -/
def exec (i : Instr) (s : State) : Host.Outcome State Fault Refusal :=
  match i with
  | .identify d body => Sys2Proof.Machine.execIdentify d body s
  | .commission d body => Sys2Proof.Machine.execCommission d body s
  | .restart d body => Sys2Proof.Machine.execRestart d body s
  | .setPort d body => Sys2Proof.Machine.execSetPort d body s
  | .setGrades d body => Sys2Proof.Machine.execSetGrades d body s
  | .setTiming d body => Sys2Proof.Machine.execSetTiming d body s
  | .setSupply d body => Sys2Proof.Machine.execSetSupply d body s
  | .setWindow d body => Sys2Proof.Machine.execSetWindow d body s
  | .selectProfile d body => Sys2Proof.Machine.execSelectProfile d body s
  | .enable d port extra => Sys2Proof.Machine.execEnable d port extra s
  | .disable d port extra => Sys2Proof.Machine.execDisable d port extra s
  | .clear d port extra => Sys2Proof.Machine.execClear d port extra s
  | .recycle d port extra => Sys2Proof.Machine.execRecycle d port extra s
  | .shedTo d body => Sys2Proof.Machine.execShedTo d body s
  | .readPort d body => Sys2Proof.Machine.execReadPort d body s
  | .readLedger d body => Sys2Proof.Machine.execReadLedger d body s
  | .readQueue d body => Sys2Proof.Machine.execReadQueue d body s
  | .readStack d body => Sys2Proof.Machine.execReadStack d body s
  | .readGap d body => Sys2Proof.Machine.execReadGap d body s
  | .takeNotices d body => Sys2Proof.Machine.execTakeNotices d body s
  | .unknownKindRequest kind body => Sys2Proof.Machine.execUnknownKindRequest kind body s
  | .crcMismatch addr kind body crc => Sys2Proof.Machine.execCrcMismatch addr kind body crc s
  | .frameFaultDiscard fault => Sys2Proof.Machine.execFrameFaultDiscard fault s
  | .byteGapExpiry => Sys2Proof.Machine.execByteGapExpiry s
  | .replySent => Sys2Proof.Machine.execReplySent s
  | .supplyFail => Sys2Proof.Machine.execSupplyFail s
  | .supplyGood pins => Sys2Proof.Machine.execSupplyGood pins s
  | .rstLow => Sys2Proof.Machine.execRstLow s
  | .rstHigh pins => Sys2Proof.Machine.execRstHigh pins s
  | .autonomyExpiry => Sys2Proof.Machine.execAutonomyExpiry s
  | .voltageSample decivolts => Sys2Proof.Machine.execVoltageSample decivolts s
  | .settleExpiry => Sys2Proof.Machine.execSettleExpiry s
  | .linePresentSample present => Sys2Proof.Machine.execLinePresentSample present s
  | .rideLimitExpiry => Sys2Proof.Machine.execRideLimitExpiry s
  | .recoveryExpiry => Sys2Proof.Machine.execRecoveryExpiry s
  | .temperatureSample sample => Sys2Proof.Machine.execTemperatureSample sample s
  | .holdExpiry depth => Sys2Proof.Machine.execHoldExpiry depth s
  | .detectionResult p result => Sys2Proof.Machine.execDetectionResult p result s
  | .detectionExpiry p => Sys2Proof.Machine.execDetectionExpiry p s
  | .gradeResult p grade => Sys2Proof.Machine.execGradeResult p grade s
  | .classifyLimitExpiry p => Sys2Proof.Machine.execClassifyLimitExpiry p s
  | .presenceLost p => Sys2Proof.Machine.execPresenceLost p s
  | .rampComplete p => Sys2Proof.Machine.execRampComplete p s
  | .short p => Sys2Proof.Machine.execShort p s
  | .inrushLimitExpiry p => Sys2Proof.Machine.execInrushLimitExpiry p s
  | .forgivenessExpiry p => Sys2Proof.Machine.execForgivenessExpiry p s
  | .holdoffExpiry p => Sys2Proof.Machine.execHoldoffExpiry p s
  | .overcurrentBegin p => Sys2Proof.Machine.execOvercurrentBegin p s
  | .overcurrentEnd p => Sys2Proof.Machine.execOvercurrentEnd p s
  | .toleranceExpiry p => Sys2Proof.Machine.execToleranceExpiry p s
  | .overload p => Sys2Proof.Machine.execOverload p s
  | .linkSenseSample c level => Sys2Proof.Machine.execLinkSenseSample c level s
  | .linkCountdownExpiry c => Sys2Proof.Machine.execLinkCountdownExpiry c s
  | .stableExpiry c => Sys2Proof.Machine.execStableExpiry c s
  | .offTimeExpiry c => Sys2Proof.Machine.execOffTimeExpiry c s
  | .lineByte b framingError => Sys2Proof.Machine.execLineByte b framingError s
  | .goodFrameIgnored addr kind body => Sys2Proof.Machine.execGoodFrameIgnored addr kind body s

end Sys2Proof.Machine
end

