-- ==== Sys2Proof/Machine/Timebase.lean ====
section
/-! DEFINITION. The part's own steps, taken when no command waits: an event of the part that is due, or one tick of the 1 ms timebase (R1; log entries 1, 2,
3, 19). -/

namespace Sys2Proof.Machine

/-! ### What is due -/

/-- The command a due countdown stands for, if it is due. -/
def whenDue (c : Countdown) (i : Instr) : List Instr := if c = .due then [i] else []

/-- The expiry that a port's state countdown is in its state (section 2.9). A RECYCLE port is a CEILING port (R2). -/
def stateExpiry (r : PortRecord) (p : Port) : List Instr :=
  match r.state with
  | .search => whenDue r.countdown (.detectionExpiry p)
  | .classify => whenDue r.countdown (.classifyLimitExpiry p)
  | .inrush => whenDue r.countdown (.inrushLimitExpiry p)
  | .on => whenDue r.countdown (.forgivenessExpiry p)
  | .faultHold => whenDue r.countdown (.holdoffExpiry p)
  | .recycle =>
    match ceilingOf p, r.recyclePhase with
    | some c, some .offTime => whenDue r.countdown (.offTimeExpiry c)
    | _, _ => []
  | .dormant | .disabled | .queued | .shed | .lockout => []

/-- A port's due events: its state countdown, its tolerance, and the OVERLOAD that a tripped port has asked for (R52). -/
def portDue (s : State) (p : Port) : List Instr :=
  let r := s.port p
  stateExpiry r p
    ++ (if r.supervision = .timing then whenDue r.tolerance (.toleranceExpiry p) else [])
    ++ (if r.state = .on ∧ r.supervision = .tripped then [.overload p] else [])

/-- A ceiling port's due events under ACTIVE supervision (R144, R145). -/
def ceilingDue (s : State) (c : Ceiling) : List Instr :=
  let r := s.ceiling c
  if r.active then whenDue r.linkCountdown (.linkCountdownExpiry c) ++ whenDue r.stableCountdown (.stableExpiry c) else []

/-- The shed stack's due holds, by depth less one (R131). -/
def holdDue (s : State) (depth : Fin 6) : List Instr :=
  match s.stack[depth.val]? with
  | some r => whenDue r.hold (.holdExpiry depth)
  | none => []

/-- The part's due events. -/
def dueEvents (s : State) : List Instr :=
  (if s.unit.unitState = .held then whenDue s.unit.autonomy .autonomyExpiry else [])
    ++ (if s.line.receiver = .collecting then whenDue s.line.byteGap .byteGapExpiry else [])
    ++ (if s.supply.candidate.isSome then whenDue s.supply.settle .settleExpiry else [])
    ++ whenDue s.supply.rideLimit .rideLimitExpiry
    ++ whenDue s.supply.recovery .recoveryExpiry
    ++ (List.finRange 6).flatMap (holdDue s)
    ++ allPorts.flatMap (portDue s)
    ++ allCeilings.flatMap (ceilingDue s)

/-! ### The tick -/

/-- A port's countdowns, one tick on. -/
def PortRecord.tick (r : PortRecord) : PortRecord := { r with countdown := r.countdown.tick, tolerance := r.tolerance.tick }

/-- A ceiling port's countdowns and sample age, one tick on. -/
def CeilingRecord.tick (r : CeilingRecord) : CeilingRecord :=
  { r with
    linkCountdown := r.linkCountdown.tick, stableCountdown := r.stableCountdown.tick, sinceSample := r.sinceSample + 1 }

/-- The latest tick at which a waiting reply begins (R159). -/
def replyLatest : Nat := 10

/-- A waiting reply, one tick on: it begins within 1 to 10 ms, at which of them is a free value (R159; log entry 3). -/
def Line.tick (l : Line) (free : Nat) : Line :=
  let l := { l with byteGap := l.byteGap.tick }
  if l.reply.isSome ∧ l.driver = false then
    { l with
      replyAge := l.replyAge + 1
      driver := decide (replyLatest ≤ l.replyAge + 1) || Config.replyBegins free }
  else l

/-- One millisecond passes on the timebase (R1). -/
def State.tick (s : State) : State :=
  { s with
    ports := mapAll PortRecord.tick s.ports
    ceilings := mapAll CeilingRecord.tick s.ceilings
    supply :=
      { s.supply with
        settle := s.supply.settle.tick, rideLimit := s.supply.rideLimit.tick, recovery := s.supply.recovery.tick }
    stack := s.stack.map fun r => { r with hold := r.hold.tick }
    line := s.line.tick s.free
    unit := { s.unit with autonomy := s.unit.autonomy.tick }
    now := s.now + 1
    free := s.free + 1 }

/-! ### The part's own step -/

/-- The part's own step: nothing in a reset; one due event, which of several a free value says; else a tick. -/
def State.ownStep (s : State) : Host.Outcome State Fault Refusal :=
  if s.unit.inReset.isSome then .next s
  else
    match dueEvents s with
    | [] => .next s.tick
    | c :: rest =>
      exec ((c :: rest).getD (Config.eventChoice s.free % (rest.length + 1)) c) { s with free := s.free + 1 }

end Sys2Proof.Machine
end

