-- ==== Sys2Proof/Machine/Step.lean ====
section
/-! DEFINITION. The step: the command at the front of the queue, or the part's own step when none waits. -/

namespace Sys2Proof.Machine

/-- One step: the front command is taken and run with the queue's rest; on an empty queue the part takes its own step (log entry 1). -/
def step (s : State) : Host.Outcome State Fault Refusal :=
  match s.pending with
  | [] => s.ownStep
  | c :: rest => exec c { s with pending := rest }

/-- The command a table word spells put at the front of the queue. The table gives no bits for any row, so no word spells one. -/
def State.withFetchWord (s : State) (nbits w : Nat) : State :=
  match decodeTableWord nbits w with
  | some c => { s with pending := c :: s.pending }
  | none => s

end Sys2Proof.Machine
end

