-- ==== Sys2Proof/Safety.lean ====
section
/-! DEFINITION. The terms the statements use: when a command is taken, runs of commands, what a command leaves alone, and the properties that the spec
says hold at every moment. -/

namespace Sys2Proof

/-! ### Kinds of command -/

/-- The four commands of the supply and RST, which act during a reset too (R167). -/
def Instr.ofReset : Instr → Bool
  | .supplyFail | .supplyGood .. | .rstLow | .rstHigh _ => true
  | _ => false

/-- The destination, kind and body of the request a command's row stands for. -/
def Instr.requestOf : Instr → Option (Dest × RequestKind × List Byte)
  | .identify d b => some (d, .identify, b)
  | .commission d b => some (d, .commission, b)
  | .restart d b => some (d, .restart, b)
  | .setPort d b => some (d, .setPort, b)
  | .setGrades d b => some (d, .setGrades, b)
  | .setTiming d b => some (d, .setTiming, b)
  | .setSupply d b => some (d, .setSupply, b)
  | .setWindow d b => some (d, .setWindow, b)
  | .selectProfile d b => some (d, .selectProfile, b)
  | .enable d p x => some (d, .portCommand, p :: Machine.commandEnable :: x)
  | .disable d p x => some (d, .portCommand, p :: Machine.commandDisable :: x)
  | .clear d p x => some (d, .portCommand, p :: Machine.commandClear :: x)
  | .recycle d p x => some (d, .portCommand, p :: Machine.commandRecycle :: x)
  | .shedTo d b => some (d, .shedTo, b)
  | .readPort d b => some (d, .readPort, b)
  | .readLedger d b => some (d, .readLedger, b)
  | .readQueue d b => some (d, .readQueue, b)
  | .readStack d b => some (d, .readStack, b)
  | .readGap d b => some (d, .readGap, b)
  | .takeNotices d b => some (d, .takeNotices, b)
  | _ => none

/-- Whether a command is a frame or a byte of the management line (chapter 9). -/
def Instr.ofLine : Instr → Bool
  | .unknownKindRequest .. | .crcMismatch .. | .goodFrameIgnored .. | .lineByte .. => true
  | i => i.requestOf.isSome

end Sys2Proof

namespace Sys2Proof.Machine

/-! ### When commands are taken -/

/-- No reset is in progress, so samples, arrivals, countdowns and requests are taken (R168). -/
def State.awake (s : State) : Prop := s.unit.inReset = none

/-- The receiver is open and between frames, and no reset is in progress: the next frame is taken as a frame (R154). -/
def State.listening (s : State) : Prop := s.awake ∧ s.line.receiver = .hunting

/-- Commands taken one after another, each from the state the one before left. -/
def taking : List Instr → State → Host.Outcome State Fault Refusal
  | [], s => .next s
  | c :: rest, s =>
    match exec c s with
    | .next t => taking rest t
    | .fault f => .fault f
    | .refused r => .refused r

/-- So many ticks of the timebase. -/
def ticks : Nat → State → State
  | 0, s => s
  | n + 1, s => ticks n s.tick

/-- A command answered on the line: the request of this kind leaves the state `u`, with this status and content in the reply buffer (R158). -/
def Answers (c : Instr) (s : State) (k : RequestKind) (st : Status) (content : List Byte) (u : State) : Prop :=
  exec c s = .next (u.withReply (kindCode k) st content)

/-- The part's own events that have come due, each in the state its rule names: the expiries of the countdowns (R1, section 2.9), and the OVERLOAD
that a tripped port has asked for (R52). -/
def State.due (s : State) : Instr → Prop
  | .autonomyExpiry => s.unit.unitState = .held ∧ s.unit.autonomy = .due
  | .byteGapExpiry => s.line.receiver = .collecting ∧ s.line.byteGap = .due
  | .settleExpiry => s.supply.candidate ≠ none ∧ s.supply.settle = .due
  | .rideLimitExpiry => s.supply.rideLimit = .due
  | .recoveryExpiry => s.supply.recovery = .due
  | .holdExpiry depth => ∃ r, s.stack[depth.val]? = some r ∧ r.hold = .due
  | .detectionExpiry p => (s.port p).state = .search ∧ (s.port p).countdown = .due
  | .classifyLimitExpiry p => (s.port p).state = .classify ∧ (s.port p).countdown = .due
  | .inrushLimitExpiry p => (s.port p).state = .inrush ∧ (s.port p).countdown = .due
  | .forgivenessExpiry p => (s.port p).state = .on ∧ (s.port p).countdown = .due
  | .holdoffExpiry p => (s.port p).state = .faultHold ∧ (s.port p).countdown = .due
  | .toleranceExpiry p => (s.port p).supervision = .timing ∧ (s.port p).tolerance = .due
  | .overload p => (s.port p).state = .on ∧ (s.port p).supervision = .tripped
  | .linkCountdownExpiry c => (s.ceiling c).active = true ∧ (s.ceiling c).linkCountdown = .due
  | .stableExpiry c => (s.ceiling c).active = true ∧ (s.ceiling c).stableCountdown = .due
  | .offTimeExpiry c =>
    (s.port (ceilingPort c)).state = .recycle ∧ (s.port (ceilingPort c)).recyclePhase = some .offTime
      ∧ (s.port (ceilingPort c)).countdown = .due
  | _ => False

/-- The receiver hunting with its buffer empty and no byte-gap countdown, and nothing else changed: what is left of a frame that had no effect (R154,
R157). -/
def State.hunting (s : State) : State :=
  { s with line := { s.line with receiver := .hunting, buffer := [], byteGap := .idle } }

/-! ### Resets -/

/-- Every block holds its reset values, apart from the notice queue and the Start-Up Controller (R168). -/
def State.blocksAtReset (t : State) : Prop :=
  t.settings = Settings.builtIn ∧ (∀ p, t.port p = PortRecord.atReset) ∧ (∀ c, t.ceiling c = CeilingRecord.atReset)
    ∧ t.supply = SupplyMonitor.atReset ∧ t.ledger = Ledger.atReset ∧ t.stack = [] ∧ t.queue = [] ∧ t.line = Line.atReset

/-- A reset begun last by this kind is in progress: outputs safe, ATTN released, nothing running (R168). -/
def State.resetting (t : State) (kind : ResetCause) : Prop :=
  t.unit.inReset = some kind ∧ t.blocksAtReset ∧ t.attnLow = false ∧ t.unit.autonomy = .idle

/-- A reset has just ended: reset values, these straps and this cause, HELD, the autonomy time loaded, and RESET_DONE the only notice, with a time
stamp of 0 (R166, R168, R169). -/
def State.justReset (t : State) (cause : ResetCause) (straps : Straps) : Prop :=
  t.unit.inReset = none ∧ t.blocksAtReset ∧ t.unit.straps = straps ∧ t.unit.resetCause = cause ∧ t.unit.unitState = .held
    ∧ t.unit.autonomy = (match straps.auto with
      | 0 => .idle
      | 1 => .running 30000
      | 2 => .running 120000
      | 3 => .running 600000)
    ∧ t.now = 0 ∧ t.notices = ⟨[⟨.resetDone cause, 0⟩], [], false⟩ ∧ t.attnLow = true

/-! ### The bodies of the setting requests, written as section 11.2 lays them out -/

/-- The length each kind's body must have; Set Window's depends on its index (section 11.1). -/
def bodyLengthOf : RequestKind → Option Nat
  | .identify | .commission | .selectProfile | .readQueue | .readStack | .takeNotices => some 1
  | .restart | .readLedger | .readGap => some 0
  | .setPort => some 9
  | .setGrades => some 14
  | .setTiming => some 19
  | .setSupply => some 22
  | .setWindow => none
  | .portCommand | .readPort => some 2
  | .shedTo => some 4

/-- A Set Port body. -/
def setPortBody (i : Fin 2) (p : Port) (x : PortSettings) : List Byte :=
  [byteOf i.val, byteOf (p.val + 1), byteOf (if x.admin then 1 else 0), byteOf x.priority.val]
    ++ field24 x.cap ++ field16 x.loss

/-- A Set Grades body. -/
def gradesBody (g : Vector Nat 7) : List Byte := g.toList.flatMap field16

/-- A Set Timing body. -/
def timingBody (t : Timing) : List Byte :=
  field16 t.detectionInterval ++ field16 t.inrushLimit ++ [byteOf t.faultHoldoff, byteOf t.faultLimit]
    ++ field16 t.forgivenessTime ++ [byteOf t.overcurrentTolerance, byteOf t.excursionThreshold]
    ++ field16 t.recycleWait ++ [byteOf t.recycleOffTime, byteOf t.recycleLimit] ++ field16 t.linkStableTime
    ++ [byteOf t.linkSamplePeriod, byteOf t.inrushSlots, byteOf t.passLimit]

/-- The values a Set Timing body can carry. -/
def Timing.carriable (t : Timing) : Prop :=
  t.detectionInterval < 65536 ∧ t.inrushLimit < 65536 ∧ t.faultHoldoff < 256 ∧ t.faultLimit < 256
    ∧ t.forgivenessTime < 65536 ∧ t.overcurrentTolerance < 256 ∧ t.excursionThreshold < 256 ∧ t.recycleWait < 65536
    ∧ t.recycleOffTime < 256 ∧ t.recycleLimit < 256 ∧ t.linkStableTime < 65536 ∧ t.linkSamplePeriod < 256
    ∧ t.inrushSlots < 256 ∧ t.passLimit < 256

/-- A Set Supply body. -/
def supplyBody (g : SupplySettings) : List Byte :=
  field16 g.settleTime ++ field24 g.rideCap ++ field24 g.extendedCap ++ field16 g.rideLimit ++ field16 g.recoveryDelay
    ++ field24 g.guardBand ++ [byteOf g.derateStart] ++ field16 g.derateSlope ++ field24 g.restoreHysteresis
    ++ [byteOf g.restoreHold]

/-- The values a Set Supply body can carry. -/
def SupplySettings.carriable (g : SupplySettings) : Prop :=
  g.settleTime < 65536 ∧ g.rideCap < 16777216 ∧ g.extendedCap < 16777216 ∧ g.rideLimit < 65536
    ∧ g.recoveryDelay < 65536 ∧ g.guardBand < 16777216 ∧ g.derateStart < 256 ∧ g.derateSlope < 65536
    ∧ g.restoreHysteresis < 16777216 ∧ g.restoreHold < 256

/-- A Set Window body for one of windows 1 to 4. -/
def windowBody (place : Fin 4) (w : Window) : List Byte :=
  [byteOf (place.val + 1), byteOf (if w.enabled then 1 else 0)] ++ field16 w.low ++ field16 w.high ++ field24 w.budget

/-- A Set Window body for the default budget. -/
def defaultBudgetBody (budget : Nat) : List Byte := 0 :: field24 budget

/-- A Shed To body: NONE with three bytes that are not read, or CAP with a value. -/
def shedToBody : Option Nat → List Byte
  | none => [0, 0, 0, 0]
  | some cap => 1 :: field24 cap

/-! ### The bodies of the replies that report state and the notices, written as sections 9.7, 11.3 and 11.4 lay them out -/

/-- The port states in code order (section 11.1). -/
def portStates : List PortState :=
  [.dormant, .disabled, .search, .classify, .queued, .inrush, .on, .recycle, .shed, .faultHold, .lockout]

/-- A flag's byte (section 11.1). -/
def flagByte (b : Bool) : Byte := if b then 1 else 0

/-- Bytes 1 to 24 of a Read Port reply (section 11.3). -/
def State.readPortBody (s : State) (p : Port) : List Byte :=
  let r := s.port p
  let x := (s.settings.profiles.get s.settings.inForce).get p
  [byteOf (p.val + 1), flagByte (decide (48 ≤ p.val)), byteOf (portStates.idxOf r.state),
    match r.recyclePhase with | none => 0 | some .offTime => 1 | some .waitSlot => 2,
    match r.grade with | none => 0xFF | some g => byteOf g.val]
    ++ field16 (r.allocation.getD 0 / 50) ++ [flagByte r.capped] ++ field16 (r.mark.getD 0 / 50)
    ++ [byteOf r.faultCount,
      match r.lastFault with
        | none => 0 | some .short => 1 | some .overload => 2 | some .inrushTimeout => 3 | some .gradeInvalid => 4,
      match r.lockoutCause with | none => 0 | some .faultLimit => 1 | some .recycleLimit => 2,
      flagByte r.shortSeen, byteOf r.excursionCount]
    ++ field16 r.peakExcursion
    ++ (if h : 48 ≤ p.val then
        let c := s.ceiling ⟨p.val - 48, by omega⟩
        [match c.linkState with | .down => 0 | .up => 1, byteOf c.recycleCount]
      else [0xFF, 0xFF])
    ++ [flagByte x.admin, byteOf x.priority.val] ++ field16 (x.cap / 50) ++ [byteOf x.loss]

/-- Bytes 1 to 41 of a Read Ledger reply (section 11.3). -/
def State.readLedgerBody (s : State) : List Byte :=
  field24 s.ledger.supplyBudget ++ field24 s.ledger.derate ++ field24 s.settings.supply.guardBand
    ++ field24 s.ledger.available ++ field24 s.committed ++ field24 s.pledged ++ field24 s.topReserve
    ++ (match s.ledger.imposedCap with | none => [0xFF, 0xFF, 0xFF] | some cap => field24 cap)
    ++ [match s.supply.activeWindow with | none => 0xFF | some w => byteOf w.val,
      match s.supply.candidate with | none => 0xFF | some w => byteOf w.val]
    ++ field16 (s.supply.latestVoltage.getD 0)
    ++ [BitVec.ofInt 8 s.supply.temperature,
      match s.supply.state with | .present => 0 | .gapRide => 1 | .gapExtended => 2 | .recovery => 3]
    ++ portStates.map fun st => byteOf (allPorts.countP fun p => (s.port p).state == st)

/-- The seven bytes of a queue entry in a Read Queue reply (R121, section 11.3). -/
def State.readQueueEntry (s : State) (e : QueueEntry) : List Byte :=
  let kind := match e.kind with | .ordinary => 0 | .marked => 1 | .reserved => 2
  [byteOf (e.port.val + 1), byteOf (e.priority.val + 4 * kind + 16 * e.passCount), byteOf e.joinRank]
    ++ field16 ((if e.kind = .reserved then (s.port e.port).allocation.getD 0 else (s.computeAllocation e.port).1) / 50)
    ++ field16 ((if e.kind = .marked then (s.port e.port).mark.getD 0 else 0) / 50)

/-- Bytes 3 onwards of a Read Stack reply for a record that stands (R139, section 11.3); the figure of a running hold is log entry 12. -/
def ShedRecord.readBody (r : ShedRecord) : List Byte :=
  [match r.cause with
      | .window => 1 | .gapRide => 2 | .gapExtended => 3 | .derate => 4 | .imposed => 5 | .setting => 6,
    flagByte r.merged]
    ++ field16 (match r.hold with | .idle => 0 | .running n => max n 1 | .due => 1)
    ++ [byteOf r.entries.length] ++ field24 (r.entries.map (·.allocation)).sum
    ++ r.entries.flatMap fun e => byteOf (e.port.val + 1) :: field16 (e.allocation / 50)

/-- A notice's row of the tables of sections 9.7 and 11.4: its code, whether it is URGENT, its port number (0 for none) and its two values. -/
def NoticeBody.row : NoticeBody → Nat × Bool × Nat × Nat × Nat
  | .resetDone cause => (1, true, 0, match cause with | .power => 1 | .pin => 2 | .restart => 3, 0)
  | .autonomousStart sec => (2, true, 0, sec, 0)
  | .portFault p cause count =>
    (3, true, p.val + 1,
      match cause with | .short => 1 | .overload => 2 | .inrushTimeout => 3 | .gradeInvalid => 4, count)
  | .portLockout p cause => (4, true, p.val + 1, match cause with | .faultLimit => 1 | .recycleLimit => 2, 0)
  | .shed cause ports total =>
    (5, true, 0,
      256 * ports + match cause with
        | .window => 1 | .gapRide => 2 | .gapExtended => 3 | .derate => 4 | .imposed => 5 | .setting => 6, total)
  | .windowChange w budget fell => (6, fell, 0, w.val, budget)
  | .gapBegin v => (7, true, 0, v, 0)
  | .rideLimit d => (8, true, 0, 0, d)
  | .sensorFaultReported => (9, true, 0, 1, 0)
  | .sensorOutOfRange v => (9, true, 0, 2, (BitVec.ofInt 24 v).toNat)
  | .deviceFound p g => (10, false, p.val + 1, g.val, 0)
  | .deviceGone p left released => (11, false, p.val + 1, portStates.idxOf left, released / 50)
  | .portShortSeen p => (12, false, p.val + 1, 0, 0)
  | .restored ports total => (13, false, 0, ports, total)
  | .gapEnd lowest d => (14, false, 0, lowest, d)
  | .excursions p raised peak => (15, false, p.val + 1, raised, peak)
  | .linkChange c st => (16, false, c.val + 49, match st with | .down => 0 | .up => 1, 0)
  | .recycled c count forced => (17, false, c.val + 49, count + if forced then 256 else 0, 0)

/-- A notice's 11 bytes: kind with its class in bit 7, time stamp, port and values (section 11.4). -/
def Notice.record (n : Notice) : List Byte :=
  let (code, urgent, port, value1, value2) := n.body.row
  byteOf (code + if urgent then 128 else 0)
    :: [n.stamp.extractLsb' 0 8, n.stamp.extractLsb' 8 8, n.stamp.extractLsb' 16 8, n.stamp.extractLsb' 24 8]
    ++ [byteOf port] ++ field16 value1 ++ field24 value2

/-! ### What is left alone -/

/-- The settings, the management line, the Start-Up Controller, the timebase, the free values and the queue of commands are unchanged. -/
def State.sameHost (s t : State) : Prop :=
  t.settings = s.settings ∧ t.line = s.line ∧ t.unit = s.unit ∧ t.now = s.now ∧ t.free = s.free ∧ t.pending = s.pending

/-- Every port's record but one is unchanged. -/
def State.otherPortsKept (p : Port) (s t : State) : Prop := ∀ q, q ≠ p → t.port q = s.port q

/-- Every ceiling port's link record but one is unchanged. -/
def State.otherCeilingsKept (c : Ceiling) (s t : State) : Prop := ∀ d, d ≠ c → t.ceiling d = s.ceiling d

/-- The ports that a restore run or an arbiter run may move: a SHED port by a pop, a QUEUED or RECYCLE port by a grant (R29, R38, R133). -/
def PortState.movable : PortState → Bool
  | .shed | .queued | .recycle => true
  | _ => false

/-- Every port but one that no run may move keeps its record. -/
def State.settledPortsKept (p : Port) (s t : State) : Prop :=
  ∀ q, q ≠ p → (s.port q).state.movable = false → t.port q = s.port q

/-! ### What holds at every moment -/

/-- The notice queue holds at most 48 notices (R162). -/
def State.noticesFit (s : State) : Prop := s.notices.count ≤ Config.noticePlaces

/-- The commit list holds exactly the ports in INRUSH, ON and RECYCLE, each once (R90). -/
def State.commitExact (s : State) : Prop :=
  s.ledger.commitList.Nodup ∧ ∀ p, p ∈ s.ledger.commitList ↔ (s.port p).state.committed = true

/-- While the unit is HELD every port is DORMANT and the commit list, grant queue and shed stack are empty (R169). -/
def State.heldQuiet (s : State) : Prop :=
  s.unit.unitState = .held →
    (∀ p, (s.port p).state = .dormant) ∧ s.ledger.commitList = [] ∧ s.queue = [] ∧ s.stack = []

/-- The held S, D and A are those of the inputs as they stand (R83, R101). -/
def State.figuresCurrent (s : State) : Prop :=
  s.ledger.supplyBudget = s.computeS ∧ s.ledger.derate = s.computeD
    ∧ s.ledger.available = availableOf s.computeS s.computeD s.settings.supply.guardBand

/-- A port has a grant-queue entry exactly when it is QUEUED, or RECYCLE in WAIT_SLOT, and never more than one (R105); the RESERVED entries are those of
the RECYCLE ports (R106). -/
def State.queueExact (s : State) : Prop :=
  (s.queue.map (·.port)).Nodup
    ∧ (∀ p, p ∈ s.queue.map (·.port) ↔
      ((s.port p).state = .queued ∨ ((s.port p).state = .recycle ∧ (s.port p).recyclePhase = some .waitSlot)))
    ∧ ∀ e ∈ s.queue, (e.kind = .reserved ↔ (s.port e.port).state = .recycle)

/-- Every entry has its port's priority in the profile in force (R106, R110). -/
def State.queuePriced (s : State) : Prop := ∀ e ∈ s.queue, e.priority = s.priorityOf e.port

/-- At most 4 ports are in INRUSH (R111). -/
def State.inrushBounded (s : State) : Prop := s.inrushCount ≤ 4

/-- No SEAT port is in RECYCLE (R2). -/
def State.recycleOnCeiling (s : State) : Prop := ∀ p, (s.port p).state = .recycle → 48 ≤ p.val

/-- The entries stand in the queue order, and their join ranks run from 1 to their number without a gap (R106, R107). -/
def State.queueOrdered (s : State) : Prop :=
  (s.queue.map (·.port)).Nodup ∧ s.queue.Pairwise (fun a b => a.ahead b = true)
    ∧ (s.queue.map (·.joinRank)).Perm (List.range' 1 s.queue.length)

/-- Every marked port is in SEARCH, CLASSIFY or QUEUED (R7, R134). -/
def State.marksPlaced (s : State) : Prop :=
  ∀ p, (s.port p).mark.isSome = true →
    (s.port p).state = .search ∨ (s.port p).state = .classify ∨ (s.port p).state = .queued

/-- The stack holds at most 6 records and no record is empty (R123). -/
def State.stackFits (s : State) : Prop := s.stack.length ≤ Config.stackPlaces ∧ ∀ r ∈ s.stack, r.entries ≠ []

/-- The ports the shed records list, in order. -/
def State.listedPorts (s : State) : List Port := s.stack.flatMap fun r => r.entries.map (·.port)

/-- Every listed port is in SHED, and every SHED port is listed in exactly one record (R123). -/
def State.shedListed (s : State) : Prop := s.listedPorts.Nodup ∧ ∀ p, p ∈ s.listedPorts ↔ (s.port p).state = .shed

/-- No port whose priority in the profile in force is 0 is in SHED (R138). -/
def State.criticalNotShed (s : State) : Prop := ∀ p, (s.port p).state = .shed → s.priorityOf p ≠ 0

/-- The sum of the allocations of the committed priority-0 ports (R93). -/
def State.committedCritical (s : State) : Nat :=
  ((s.ledger.commitList.filter fun p => s.priorityOf p == 0).map s.allocationOf).sum

/-- Committed never exceeds the greater of Available and the sum of allocations of committed priority-0 ports (R93). -/
def State.withinBudget (s : State) : Prop := s.committed ≤ max s.ledger.available s.committedCritical

/-- The timing settings lie in their ranges (section 2.12). -/
def Timing.inRange (t : Timing) : Prop :=
  (100 ≤ t.detectionInterval ∧ t.detectionInterval ≤ 2000) ∧ (20 ≤ t.inrushLimit ∧ t.inrushLimit ≤ 500)
    ∧ (1 ≤ t.faultHoldoff ∧ t.faultHoldoff ≤ 60) ∧ (1 ≤ t.faultLimit ∧ t.faultLimit ≤ 15)
    ∧ (10 ≤ t.forgivenessTime ∧ t.forgivenessTime ≤ 600) ∧ (10 ≤ t.overcurrentTolerance ∧ t.overcurrentTolerance ≤ 200)
    ∧ (1 ≤ t.excursionThreshold ∧ t.excursionThreshold ≤ 255) ∧ (5 ≤ t.recycleWait ∧ t.recycleWait ≤ 300)
    ∧ (2 ≤ t.recycleOffTime ∧ t.recycleOffTime ≤ 30) ∧ (1 ≤ t.recycleLimit ∧ t.recycleLimit ≤ 7)
    ∧ (60 ≤ t.linkStableTime ∧ t.linkStableTime ≤ 3600) ∧ t.linkSamplePeriod ∈ [1, 4, 16]
    ∧ (1 ≤ t.inrushSlots ∧ t.inrushSlots ≤ 4) ∧ t.passLimit ≤ 15

/-- The supply settings lie in their ranges (sections 4.9 and 5.2). -/
def SupplySettings.inRange (g : SupplySettings) : Prop :=
  g.settleTime ≤ 5000 ∧ g.rideCap ≤ 1800000 ∧ g.extendedCap ≤ 1800000 ∧ (1 ≤ g.rideLimit ∧ g.rideLimit ≤ 600)
    ∧ g.recoveryDelay ≤ 5000 ∧ g.guardBand ≤ 100000 ∧ (20 ≤ g.derateStart ∧ g.derateStart ≤ 100)
    ∧ g.derateSlope ≤ 20000 ∧ g.restoreHysteresis ≤ 100000 ∧ g.restoreHold ≤ 60

/-- A port's settings lie in their ranges, the cap a multiple of 50 mW (section 1.4). -/
def PortSettings.inRange (x : PortSettings) : Prop := (1000 ≤ x.cap ∧ x.cap ≤ 70000 ∧ 50 ∣ x.cap) ∧ x.loss ≤ 250

/-- A window's settings lie in their ranges, the budget a multiple of 1000 mW; an enabled window's low bound is below its high bound (R62,
R64). -/
def Window.inRange (w : Window) : Prop :=
  w.low ≤ 1500 ∧ w.high ≤ 1500 ∧ (w.budget ≤ 1800000 ∧ 1000 ∣ w.budget) ∧ (w.enabled = true → w.low < w.high)

/-- Every setting of the Settings Store lies in its range (R13, R15, R44, R62, R80, R87). -/
def Settings.inRange (g : Settings) : Prop :=
  (∀ i : Fin 7, 1000 ≤ g.grades.get i ∧ g.grades.get i ≤ 60000)
    ∧ (∀ (i : Fin 2) (p : Port), ((g.profiles.get i).get p).inRange) ∧ g.timing.inRange ∧ g.supply.inRange
    ∧ (∀ i : Fin 4, (g.windows.get i).inRange) ∧ (g.defaultBudget ≤ 1800000 ∧ 1000 ∣ g.defaultBudget)

end Sys2Proof.Machine
end

