-- ==== Sys2Proof/Certificates/Slice0/Obligations.lean ====
section
/-! DEFINITION. The statements for the provers, in the terms of Sys2Proof/Safety.lean. -/

section

open Sys2Proof Sys2Proof.Machine

/-! ### The step, the timebase and resets -/

/-- A step with commands waiting runs the front command on the state with the queue's rest. The queue is the model's. -/
def Obligations.StepRunsTheFrontCommand : Prop :=
  ∀ (c : Instr) (rest : List Instr) (s : State), step { s with pending := c :: rest } = exec c { s with pending := rest }

/-- Every command answers a next state and none touches the queue of waiting commands (the queue is the model's; log entry 16). While a reset is in
progress every command but the four of the supply and RST is not taken. -/
def Obligations.EveryCommandAnswersAndResetsTakeNone : Prop :=
  ∀ (c : Instr) (s : State), (∃ t, exec c s = .next t ∧ t.pending = s.pending)
    ∧ (s.unit.inReset.isSome = true → c.ofReset = false → exec c s = .next s)

/-- With no command waiting, the part takes one of its due events, or else one millisecond passes. A countdown come due in the state of its rule is due, so is
the OVERLOAD of a port ON and TRIPPED, and nothing else is. A tick moves every countdown, the sample ages, the timebase and the counter of free values on by one
and may begin a waiting reply, which it begins at the latest ten ticks after the request; every other field stays. During a reset nothing happens. The order of
events and the moment a reply begins are free; that a step does this is the model's choice: log entries 1, 2 and 3. -/
def Obligations.EmptyQueueStepIsDueEventOrTick : Prop :=
  ∀ s : State, s.pending = [] →
    (s.unit.inReset.isSome = true → step s = .next s)
      ∧ (s.awake → ∀ c, c ∈ dueEvents s ↔ s.due c)
      ∧ (s.awake → dueEvents s ≠ [] → ∃ c ∈ dueEvents s, step s = exec c { s with free := s.free + 1 })
      ∧ (s.awake → dueEvents s = [] → ∃ t, step s = .next t ∧ t.now = s.now + 1
        ∧ (∀ p, t.port p =
          { s.port p with countdown := (s.port p).countdown.tick, tolerance := (s.port p).tolerance.tick })
        ∧ (∀ c, t.ceiling c =
          { s.ceiling c with
            linkCountdown := (s.ceiling c).linkCountdown.tick, stableCountdown := (s.ceiling c).stableCountdown.tick
            sinceSample := (s.ceiling c).sinceSample + 1 })
        ∧ t.supply =
          { s.supply with
            settle := s.supply.settle.tick, rideLimit := s.supply.rideLimit.tick, recovery := s.supply.recovery.tick }
        ∧ t.stack = s.stack.map (fun r => { r with hold := r.hold.tick })
        ∧ t.unit = { s.unit with autonomy := s.unit.autonomy.tick }
        ∧ (let waiting : Prop := s.line.reply.isSome = true ∧ s.line.driver = false
          (¬ waiting → t.line = { s.line with byteGap := s.line.byteGap.tick })
            ∧ (waiting → t.line =
              { s.line with
                byteGap := s.line.byteGap.tick, replyAge := s.line.replyAge + 1, driver := t.line.driver })
            ∧ (waiting → 9 ≤ s.line.replyAge → t.line.driver = true))
        ∧ t.free = s.free + 1
        ∧ t.settings = s.settings ∧ t.ledger = s.ledger ∧ t.queue = s.queue ∧ t.notices = s.notices ∧ t.pending = [])

/-- A countdown loaded with n milliseconds comes due at the tick after n ticks, that is between n and n+1 ms after its load; seconds are loaded as
thousands of milliseconds. -/
def Obligations.CountdownComesDueAfterItsDuration : Prop :=
  (∀ n k : Nat, Countdown.tick^[k] (loadMs n) = .due ↔ n < k)
    ∧ (∀ sec k : Nat, Countdown.tick^[k] (loadSeconds sec) = .due ↔ 1000 * sec < k)
    ∧ (∀ k : Nat, Countdown.tick^[k] .idle = .idle)

/-- SUPPLY_FAIL and RST_LOW begin a reset with every output safe; SUPPLY_GOOD, which brings the level of RST, and RST_HIGH end one when both conditions are met,
latching the straps, and leave it in progress when the other is not. A power-up with RST held low ends when RST is released, with cause PIN when the low was
recognised after the supply became good and POWER when it was not recognised or was recognised before. Each is without effect where its level already stands (log
entry 9); the blocks holding their reset values from the beginning of a reset is the model's choice, log entry 10. -/
def Obligations.SupplyAndRstBeginAndEndResets : Prop :=
  ∀ (s : State) (pins other : Straps),
    (s.unit.supplyGood = true → ∃ t, exec .supplyFail s = .next t ∧ t.resetting .power ∧ t.unit.supplyGood = false
      ∧ t.unit.rstHigh = s.unit.rstHigh ∧ t.unit.rstRecognised = s.unit.rstRecognised ∧ t.unit.straps = s.unit.straps)
    ∧ (s.unit.rstRecognised = false → ∃ t, exec .rstLow s = .next t ∧ t.resetting .pin ∧ t.unit.rstHigh = false
      ∧ t.unit.rstRecognised = true ∧ t.unit.supplyGood = s.unit.supplyGood ∧ t.unit.straps = s.unit.straps)
    ∧ (s.unit.supplyGood = false → ∃ t, exec (.supplyGood ⟨pins, true⟩) s = .next t
      ∧ t.justReset .power pins ∧ t.unit.supplyGood = true ∧ t.unit.rstHigh = true ∧ t.unit.rstRecognised = false)
    ∧ (s.unit.supplyGood = false → ∃ t, exec (.supplyGood ⟨pins, false⟩) s = .next t
      ∧ t.resetting .power ∧ t.unit.supplyGood = true ∧ t.unit.rstHigh = false
      ∧ t.unit.rstRecognised = s.unit.rstRecognised ∧ t.unit.straps = s.unit.straps)
    ∧ (s.unit.rstHigh = false → s.unit.supplyGood = true → ∃ t, exec (.rstHigh pins) s = .next t
      ∧ t.justReset (s.unit.inReset.getD .pin) pins ∧ t.unit.supplyGood = true ∧ t.unit.rstHigh = true
      ∧ t.unit.rstRecognised = false)
    ∧ (s.unit.rstHigh = false → s.unit.supplyGood = false →
      exec (.rstHigh pins) s = .next { s with unit := { s.unit with rstHigh := true, rstRecognised := false } })
    ∧ (s.unit.supplyGood = false → s.unit.rstRecognised = false →
      (∃ t, taking [.supplyGood ⟨other, false⟩, .rstLow, .rstHigh pins] s = .next t ∧ t.justReset .pin pins)
        ∧ (∃ t, taking [.supplyGood ⟨other, false⟩, .rstHigh pins] s = .next t ∧ t.justReset .power pins)
        ∧ (∃ t, taking [.rstLow, .supplyGood ⟨other, false⟩, .rstHigh pins] s = .next t ∧ t.justReset .power pins))
    ∧ (s.unit.supplyGood = false → exec .supplyFail s = .next s)
    ∧ (s.unit.rstRecognised = true → exec .rstLow s = .next s)
    ∧ (s.unit.supplyGood = true → ∀ high, exec (.supplyGood ⟨pins, high⟩) s = .next s)
    ∧ (s.unit.rstHigh = true → exec (.rstHigh pins) s = .next s)

/-- RESTART to the unit is answered DONE, changes nothing else, and resets the unit when its reply has been sent; broadcast, it resets the unit at once.
Both keep the straps and record RESTART. A body that is not empty is refused. That the reset begins and ends in the one step is the model's choice, log entry 8, and
so is a REPLY_SENT that acts on a reply which has not begun, log entry 4. -/
def Obligations.RestartResetsAfterItsReply : Prop :=
  ∀ s : State, s.listening →
    (∃ t, exec (.restart .own []) s = .next t
      ∧ t = ({ s with line := { s.line with restartPending := true } } : State).withReply 0x03 .done []
      ∧ ∃ u, exec .replySent t = .next u ∧ u.justReset .restart s.unit.straps ∧ u.pending = s.pending)
    ∧ (∃ u, exec (.restart .broadcast []) s = .next u ∧ u.justReset .restart s.unit.straps ∧ u.pending = s.pending)
    ∧ (∀ body : List Byte, body ≠ [] → body.length ≤ 200 →
      Answers (.restart .own body) s .restart .badFrame [] s)

/-- COMMISSION in HELD, to the unit or broadcast: the carried profile is in force, the unit RUNNING, every port in SEARCH with a probe or DISABLED by
its admin setting, and the figures are computed; in RUNNING it is refused with WRONG_STATE and an index above 1 with BAD_INDEX. AUTONOMY_EXPIRY with the
countdown come due in HELD does the same with profile 0 and posts AUTONOMOUS_START with the autonomy time; otherwise it does nothing. -/
def Obligations.CommissionAndAutonomyEnterRunning : Prop :=
  (∀ (s : State) (i : Fin 2) (d : Dest), s.listening →
     (s.unit.unitState = .held → s.heldQuiet → s.line.restartPending = false →
       ∃ t, exec (.commission d [byteOf i.val]) s = .next t
         ∧ t.unit = { s.unit with unitState := .running, autonomy := .idle }
         ∧ t.settings = { s.settings with inForce := i }
         ∧ (∀ p, t.port p =
           if ((s.settings.profiles.get i).get p).admin then
             { s.port p with
               state := .search, recyclePhase := none, lockoutCause := none, operation := .probe, switch := .off
               countdown := .running s.settings.timing.detectionInterval }
           else
             { s.port p with
               state := .disabled, recyclePhase := none, lockoutCause := none, operation := .none, countdown := .idle })
         ∧ t.figuresCurrent ∧ t.ledger.commitList = [] ∧ t.queue = [] ∧ t.stack = [] ∧ t.notices = s.notices
         ∧ t.supply = s.supply ∧ t.ceilings = s.ceilings ∧ t.now = s.now
         ∧ (d = .own → t.line.reply = some ⟨0x02, [0x00]⟩ ∧ t.line.receiver = .closed)
         ∧ (d = .broadcast → t.line.reply = s.line.reply ∧ t.line.receiver = .hunting))
     ∧ (s.unit.unitState = .running → Answers (.commission .own [byteOf i.val]) s .commission .wrongState [] s)
     ∧ (∀ b : Byte, 2 ≤ b.toNat → Answers (.commission .own [b]) s .commission .badIndex [] s))
  ∧ (∀ s : State, s.awake →
     (s.unit.unitState = .held → s.heldQuiet → s.unit.autonomy = .due →
       ∃ t, exec .autonomyExpiry s = .next t
         ∧ t.unit = { s.unit with unitState := .running, autonomy := .idle }
         ∧ t.settings = { s.settings with inForce := 0 }
         ∧ (∀ p, t.port p =
           if ((s.settings.profiles.get 0).get p).admin then
             { s.port p with
               state := .search, recyclePhase := none, lockoutCause := none, operation := .probe, switch := .off
               countdown := .running s.settings.timing.detectionInterval }
           else
             { s.port p with
               state := .disabled, recyclePhase := none, lockoutCause := none, operation := .none, countdown := .idle })
         ∧ t.figuresCurrent ∧ t.ledger.commitList = [] ∧ t.queue = [] ∧ t.stack = []
         ∧ t.notices = (s.post (.autonomousStart ((autonomySeconds s.unit.straps).getD 0))).notices
         ∧ t.supply = s.supply ∧ t.ceilings = s.ceilings ∧ t.line = s.line ∧ t.now = s.now)
     ∧ (s.unit.unitState = .running ∨ s.unit.autonomy ≠ .due → exec .autonomyExpiry s = .next s))

/-! ### The management line -/

/-- In every condition of the receiver, a request's command does exactly what the bytes of its frame do, taken one LINE_BYTE at a time. -/
def Obligations.RequestIsTheBytesOfItsFrame : Prop :=
  ∀ (c : Instr) (d : Dest) (k : RequestKind) (body : List Byte) (s : State), c.requestOf = some (d, k, body) →
    s.awake → body.length ≤ 200 →
    taking
      ((syncByte :: frameAfterSync (s.addressOf d) (kindCode k) body
        (crc16 (frameCore (s.addressOf d) (kindCode k) body))).map fun b => .lineByte b false) s = exec c s

/-- What a frame that is no request to this unit does: a closed receiver ignores everything of the line; a listening one ignores a good frame to
another address or a broadcast of a kind that is not capable, without a count, and answers an unknown kind with BAD_FRAME. -/
def Obligations.LineIgnoresWhatIsNotForTheUnit : Prop :=
  (∀ (c : Instr) (s : State), s.awake → s.line.receiver = .closed → c.ofLine = true → exec c s = .next s)
    ∧ (∀ (addr kind : Byte) (body : List Byte) (s : State), s.listening → body.length ≤ 200 →
      addr.toNat ≠ unitAddress s.unit.straps →
      (addr ≠ 0 ∨ ∀ k, kindOfCode kind = some k → k ∉ [.commission, .restart, .selectProfile, .shedTo]) →
      exec (.goodFrameIgnored addr kind body) s =
        .next { s with line := { s.line with receiver := .hunting, buffer := [], byteGap := .idle } })
    ∧ (∀ (c : Instr) (k : RequestKind) (body : List Byte) (s : State), s.listening → body.length ≤ 200 →
      c.requestOf = some (.broadcast, k, body) → k ∉ [.commission, .restart, .selectProfile, .shedTo] →
      exec c s = .next { s with line := { s.line with receiver := .hunting, buffer := [], byteGap := .idle } })
    ∧ (∀ (kind : Byte) (body : List Byte) (s : State), s.listening → body.length ≤ 200 → kindOfCode kind = none →
      exec (.unknownKindRequest kind body) s = .next (s.withReply kind .badFrame []))

/-- Every discard returns the receiver to hunting and raises the line error count by 1, saturating at 65 535, and does nothing else: a frame whose CRC
differs, whatever its address, taken whole or at its last byte; a length byte above 200, as its byte is taken or as FRAME_FAULT_DISCARD; a framing error while
collecting; the byte-gap countdown come due while collecting. That FRAME_FAULT_DISCARD has no effect outside collecting is the model's reading, log entry 15. -/
def Obligations.DiscardedFramesAreCounted : Prop :=
  ∀ s : State, s.awake →
    let discarded : State :=
      { s with line := { s.line with
        receiver := .hunting, buffer := [], byteGap := .idle, errorCount := min (s.line.errorCount + 1) 65535 } }
    (∀ (addr kind : Byte) (body : List Byte) (crc : BitVec 16), s.line.receiver = .hunting → body.length ≤ 200 →
      crc ≠ crc16 (frameCore addr kind body) → exec (.crcMismatch addr kind body crc) s = .next discarded)
    ∧ (∀ f : FrameFault, exec (.frameFaultDiscard f) s =
      .next (if s.line.receiver = .collecting then discarded else s))
    ∧ exec .byteGapExpiry s =
      .next (if s.line.receiver = .collecting ∧ s.line.byteGap = .due then discarded else s)
    ∧ (∀ b : Byte, s.line.receiver = .collecting → exec (.lineByte b true) s = .next discarded)
    ∧ (∀ addr kind len : Byte, s.line.receiver = .collecting → s.line.buffer = [addr, kind] → 200 < len.toNat →
      exec (.lineByte len false) s = .next discarded)
    ∧ (∀ (addr kind low high : Byte) (body : List Byte), s.line.receiver = .collecting → body.length ≤ 200 →
      s.line.buffer = addr :: kind :: byteOf body.length :: body ++ [low] →
      low.toNat + 256 * high.toNat ≠ (crc16 (addr :: kind :: byteOf body.length :: body)).toNat →
      exec (.lineByte high false) s = .next discarded)

/-- A byte taken while hunting begins a frame exactly when it is 0xA5 without a framing error; a byte taken while collecting that leaves the frame without its last
byte joins the buffer and reloads the byte-gap countdown with 5 ms; the last byte of a frame whose CRC is right has the frame acted on by its address; a byte taken
while closed is ignored. REPLY_SENT with a reply in the buffer disables the driver and opens the receiver, hunting, with the reply gone; without a reply it does
nothing. That it acts on a reply which has not begun is the model's choice, log entry 4. -/
def Obligations.ReceiverBeginsCollectsAndReopens : Prop :=
  ∀ (b : Byte) (fe : Bool) (s : State), s.awake →
    let joined : State := { s with line := { s.line with buffer := s.line.buffer ++ [b], byteGap := .running 5 } }
    (s.line.receiver = .hunting → exec (.lineByte b fe) s =
      .next (if b = 0xA5 ∧ fe = false then
        { s with line := { s.line with receiver := .collecting, buffer := [], byteGap := .running 5 } }
      else s))
    ∧ (s.line.receiver = .collecting → s.line.buffer.length < 2 → exec (.lineByte b false) s = .next joined)
    ∧ (∀ (addr kind len : Byte) (rest : List Byte), s.line.receiver = .collecting →
      s.line.buffer ++ [b] = addr :: kind :: len :: rest → len.toNat ≤ 200 → rest.length < len.toNat + 2 →
      exec (.lineByte b false) s = .next joined)
    ∧ (∀ (addr kind low : Byte) (body : List Byte), s.line.receiver = .collecting → body.length ≤ 200 →
      s.line.buffer = addr :: kind :: byteOf body.length :: body ++ [low] →
      low.toNat + 256 * b.toNat = (crc16 (addr :: kind :: byteOf body.length :: body)).toNat →
      exec (.lineByte b false) s = .next (joined.goodFrame addr kind body))
    ∧ (s.line.receiver = .closed → exec (.lineByte b fe) s = .next s)
    ∧ (s.line.reply.isSome = true → s.line.restartPending = false → exec .replySent s =
      .next { s with line := { s.line with
        receiver := .hunting, buffer := [], byteGap := .idle, reply := none, replyAge := 0, driver := false } })
    ∧ (s.line.reply = none → exec .replySent s = .next s)

/-- A reply begins between 1 and 10 ms after its request was taken, is then transmitted as one frame with SYNC, the unit address plus 0x80, the request's
kind, the body and its CRC low byte first, and keeps being so while the timebase runs. -/
def Obligations.ReplyBeginsWithinTenMilliseconds : Prop :=
  ∀ (s : State) (r : Reply), s.line.reply = some r → s.line.driver = false → s.line.replyAge = 0 →
    ∃ k, 1 ≤ k ∧ k ≤ 10 ∧ (∀ j, j < k → (ticks j s).transmitted = none)
      ∧ ∀ j, k ≤ j → (ticks j s).transmitted =
        (let addr := byteOf (unitAddress s.unit.straps + 0x80)
         let core := [addr, r.kind, byteOf r.body.length] ++ r.body
         some ((0xA5 :: core) ++ [byteOf (crc16 core).toNat, byteOf ((crc16 core).toNat / 256)]))

/-- Every request to a listening unit is answered; one that is refused changes nothing but for the reply, whose body is the status alone; and a body of the
wrong length is refused with BAD_FRAME for every kind with one length and no earlier check. A broadcast that is refused (Commission in RUNNING, an index above 1, a
Shed To with another selector, a wrong length) changes nothing and leaves the receiver hunting; no accepted Restart waits on a listening unit, which the premise says. -/
def Obligations.RefusedRequestChangesNothing : Prop :=
  (∀ (c : Instr) (k : RequestKind) (body : List Byte) (s : State), c.requestOf = some (.own, k, body) →
    s.listening → body.length ≤ 200 →
    (∃ st content u, Answers c s k st content u ∧ (st ≠ .done → st ≠ .doneClamped → content = [] ∧ u = s))
      ∧ (∀ n, bodyLengthOf k = some n → k ≠ .portCommand → body.length ≠ n → Answers c s k .badFrame [] s))
  ∧ ∀ s : State, s.listening → s.line.restartPending = false →
    (∀ index : Byte, (2 ≤ index.toNat ∨ s.unit.unitState = .running) →
      exec (.commission .broadcast [index]) s = .next s.hunting)
    ∧ (∀ index : Byte, 2 ≤ index.toNat → exec (.selectProfile .broadcast [index]) s = .next s.hunting)
    ∧ (∀ (selector : Byte) (cap : List Byte), 2 ≤ selector.toNat → cap.length = 3 →
      exec (.shedTo .broadcast (selector :: cap)) s = .next s.hunting)
    ∧ (∀ (c : Instr) (k : RequestKind) (body : List Byte) (n : Nat), c.requestOf = some (.broadcast, k, body) →
      k ∈ [.commission, .restart, .selectProfile, .shedTo] → bodyLengthOf k = some n → body.length ≠ n →
      body.length ≤ 200 → exec c s = .next s.hunting)

/-- The four Port Commands are refused in the order HELD, BAD_PORT, BAD_FIELD, BAD_FRAME, and a body too short for the next check with BAD_FRAME in its
place; the handler of the kind is stated for every body, the four commands for every port byte. -/
def Obligations.PortCommandChecksInOrder : Prop :=
  (∀ (s : State) (body : List Byte),
    (s.unit.unitState = .held → handler .portCommand body s = ⟨.held, [], s⟩)
      ∧ (s.unit.unitState = .running → handler .portCommand [] s = ⟨.badFrame, [], s⟩)
      ∧ (s.unit.unitState = .running → ∀ b, (b.toNat = 0 ∨ 56 < b.toNat) →
        handler .portCommand (b :: body) s = ⟨.badPort, [], s⟩)
      ∧ (s.unit.unitState = .running → ∀ b, 1 ≤ b.toNat → b.toNat ≤ 56 → handler .portCommand [b] s = ⟨.badFrame, [], s⟩)
      ∧ (s.unit.unitState = .running → ∀ b c, 1 ≤ b.toNat → b.toNat ≤ 56 → (c.toNat = 0 ∨ 4 < c.toNat) →
        handler .portCommand (b :: c :: body) s = ⟨.badField, [], s⟩)
      ∧ (s.unit.unitState = .running → ∀ b c, 1 ≤ b.toNat → b.toNat ≤ 56 → 1 ≤ c.toNat → c.toNat ≤ 4 → body ≠ [] →
        handler .portCommand (b :: c :: body) s = ⟨.badFrame, [], s⟩))
    ∧ (∀ (s : State) (port : Byte) (extra : List Byte), s.listening → extra.length ≤ 198 →
      ∀ c ∈ [Instr.enable .own port extra, .disable .own port extra, .clear .own port extra, .recycle .own port extra],
        (s.unit.unitState = .held → Answers c s .portCommand .held [] s)
          ∧ (s.unit.unitState = .running → (port.toNat = 0 ∨ 56 < port.toNat) → Answers c s .portCommand .badPort [] s)
          ∧ (s.unit.unitState = .running → 1 ≤ port.toNat → port.toNat ≤ 56 → extra ≠ [] →
            Answers c s .portCommand .badFrame [] s))

/-! ### Requests -/

/-- SET_PORT clamps the cap into 1000 to 70 000 mW and rounds it down to 50 mW, clamps the loss to 250, and stores the four settings. While the unit is HELD,
or for the profile not in force, or with admin and priority unchanged, nothing else changes. In the profile in force while RUNNING an admin change comes first: it
enables a DISABLED port into SEARCH, or disables the port from the state it finds, followed by its restore run or arbiter run if the admin alone changed. A priority
change comes second: the port's entry is re-placed under the new priority with its kind, join rank and pass count, a SHED port raised to priority 0 leaves its record
for SEARCH without a mark, and one evaluation with cause SETTING follows. Index, port and fields out of range are refused in that order. -/
def Obligations.SetPortStoresItsSettings : Prop :=
  ∀ (s : State) (i : Fin 2) (p : Port) (x : PortSettings), s.listening → x.cap < 16777216 → x.loss < 65536 →
    (let cap := max 1000 (min x.cap 70000)
     let stored : PortSettings := ⟨x.admin, x.priority, cap - cap % 50, min x.loss 250⟩
     let old := (s.settings.profiles.get i).get p
     s.unit.unitState = .held ∨ i ≠ s.settings.inForce ∨ (old.admin = x.admin ∧ old.priority = x.priority) →
      Answers (.setPort .own (setPortBody i p x)) s .setPort
        (if cap - cap % 50 = x.cap ∧ min x.loss 250 = x.loss then .done else .doneClamped) []
        { s with settings := { s.settings with
          profiles := s.settings.profiles.set i.val ((s.settings.profiles.get i).set p.val stored) } })
    ∧ (let cap := max 1000 (min x.cap 70000)
      let stored : PortSettings := ⟨x.admin, x.priority, cap - cap % 50, min x.loss 250⟩
      let old := s.portSettings p
      let w : State :=
        { s with settings := { s.settings with
          profiles := s.settings.profiles.set i.val ((s.settings.profiles.get i).set p.val stored) } }
      let probing (v : State) : State := v.updPort p fun r =>
        { r with
          state := .search, recyclePhase := none, lockoutCause := none, switch := .off, operation := .probe
          countdown := .running s.settings.timing.detectionInterval }
      let off (v : State) : State := v.updPort p fun r =>
        { r with
          state := .disabled, recyclePhase := none, lockoutCause := none, switch := .off, operation := .none
          countdown := .idle, mark := none }
      let marked := (s.port p).mark.isSome
      let a : State × FollowUp :=
        if x.admin = old.admin then (w, .none)
        else if x.admin then (if (s.port p).state = .disabled then probing w else w, .none)
        else match (s.port p).state with
          | .disabled => (w, .none)
          | .search | .classify => (off w, if marked then .restore else .none)
          | .queued => (off (w.leaveQueue p), if marked then .restore else .arbiter)
          | .inrush | .on | .recycle => (off ((w.leaveQueue p).release p), .restore)
          | .shed => (off (w.shrinkRecord p), .restore)
          | .dormant | .faultHold | .lockout => (off w, .none)
      let b := a.1.repriceEntry p x.priority
      let u : State :=
        if x.priority = old.priority then
          match a.2 with
          | .none => a.1
          | .arbiter => a.1.arbiterRun
          | .restore => a.1.restoreRun
        else if (b.port p).state = .shed ∧ x.priority = 0 then (probing (b.shrinkRecord p)).evaluate .setting
        else b.evaluate .setting
      s.unit.unitState = .running → i = s.settings.inForce → ¬ (old.admin = x.admin ∧ old.priority = x.priority) →
      Answers (.setPort .own (setPortBody i p x)) s .setPort
          (if cap - cap % 50 = x.cap ∧ min x.loss 250 = x.loss then .done else .doneClamped) [] u
        ∧ b.queue.Perm (a.1.queue.map fun e => if e.port = p then { e with priority := x.priority } else e)
        ∧ (s.queueOrdered → b.queue.Pairwise fun e f => e.ahead f = true)
        ∧ (s.queuePriced → u.queuePriced)
        ∧ u.portSettings p = stored
        ∧ (old.priority ≠ x.priority → u.figuresCurrent)
        ∧ (old.admin = true → x.admin = false → (u.port p).state = .disabled)
        ∧ (old.admin = false → x.admin = true → (s.port p).state = .disabled → (u.port p).state = .search)
        ∧ (old.admin = x.admin → x.priority = 0 → (s.port p).state = .shed → (s.port p).mark = none →
          (u.port p).state = .search ∧ (u.port p).operation = .probe ∧ (u.port p).mark = none ∧ p ∉ u.listedPorts))
    ∧ (∀ a b c e : Byte, ∀ rest : List Byte, rest.length = 5 →
      Answers (.setPort .own (a :: b :: c :: e :: rest)) s .setPort
        (if 2 ≤ a.toNat then .badIndex else if b.toNat = 0 ∨ 56 < b.toNat then .badPort else .badField) [] s
      ∨ (a.toNat < 2 ∧ 1 ≤ b.toNat ∧ b.toNat ≤ 56 ∧ c.toNat < 2 ∧ e.toNat < 4))

/-- SET_GRADES clamps each power into 1000 to 60 000 mW, stores the table whole, and changes nothing else. SET_TIMING clamps each setting into its range
and takes the link sample period as the nearest of 1, 4 and 16, the higher at equal distance; it starts no evaluation, and an arbiter run exactly when the
inrush slots change. -/
def Obligations.SetGradesAndSetTimingStore : Prop :=
  (∀ (s : State) (g : Vector Nat 7), s.listening → (∀ i : Fin 7, g.get i < 65536) →
     ∃ stored : Vector Nat 7, (∀ i : Fin 7, stored.get i = max 1000 (min (g.get i) 60000))
       ∧ Answers (.setGrades .own (gradesBody g)) s .setGrades (if stored = g then .done else .doneClamped) []
         { s with settings := { s.settings with grades := stored } })
  ∧ (∀ (s : State) (x : Timing), s.listening → x.carriable →
     let stored : Timing :=
       { detectionInterval := max 100 (min x.detectionInterval 2000), inrushLimit := max 20 (min x.inrushLimit 500)
         faultHoldoff := max 1 (min x.faultHoldoff 60), faultLimit := max 1 (min x.faultLimit 15)
         forgivenessTime := max 10 (min x.forgivenessTime 600)
         overcurrentTolerance := max 10 (min x.overcurrentTolerance 200)
         excursionThreshold := max 1 (min x.excursionThreshold 255), recycleWait := max 5 (min x.recycleWait 300)
         recycleOffTime := max 2 (min x.recycleOffTime 30), recycleLimit := max 1 (min x.recycleLimit 7)
         linkStableTime := max 60 (min x.linkStableTime 3600)
         linkSamplePeriod :=
           if x.linkSamplePeriod ≤ 2 then 1 else if x.linkSamplePeriod ≤ 9 then 4 else 16
         inrushSlots := max 1 (min x.inrushSlots 4), passLimit := min x.passLimit 15 }
     let u : State := { s with settings := { s.settings with timing := stored } }
     stored.inRange
       ∧ Answers (.setTiming .own (timingBody x)) s .setTiming (if stored = x then .done else .doneClamped) []
         (if stored.inrushSlots = s.settings.timing.inrushSlots then u else u.arbiterRun))

/-- SET_SUPPLY clamps each setting into its range, stores them together and starts one evaluation with cause SETTING, by which the held figures are
current. -/
def Obligations.SetSupplyStoresAndEvaluates : Prop :=
  ∀ (s : State) (x : SupplySettings), s.listening → x.carriable →
    let stored : SupplySettings :=
      { settleTime := min x.settleTime 5000, rideCap := min x.rideCap 1800000, extendedCap := min x.extendedCap 1800000
        rideLimit := max 1 (min x.rideLimit 600), recoveryDelay := min x.recoveryDelay 5000
        guardBand := min x.guardBand 100000, derateStart := max 20 (min x.derateStart 100)
        derateSlope := min x.derateSlope 20000, restoreHysteresis := min x.restoreHysteresis 100000
        restoreHold := min x.restoreHold 60 }
    let u := ({ s with settings := { s.settings with supply := stored } } : State).evaluate .setting
    Answers (.setSupply .own (supplyBody x)) s .setSupply (if stored = x then .done else .doneClamped) [] u
      ∧ stored.inRange ∧ u.settings = { s.settings with supply := stored } ∧ u.figuresCurrent
      ∧ u.supply = { s.supply with measurement := u.supply.measurement }

/-- SET_WINDOW stores the default budget or a window, clamped and rounded, re-matches the latest voltage in the new table by the window rules, and makes one
evaluation with cause SETTING; an enabled window whose low bound is not below its high bound is refused with BAD_FIELD, an index above 4 with BAD_INDEX whatever the
length, and an empty body or a length that is not the one of its index with BAD_FRAME. -/
def Obligations.SetWindowStoresAndRematches : Prop :=
  ∀ (s : State), s.listening →
    (∀ (place : Fin 4) (x : Window), x.low < 65536 → x.high < 65536 → x.budget < 16777216 →
      let budget := min x.budget 1800000
      let stored : Window := ⟨x.enabled, min x.low 1500, min x.high 1500, budget - budget % 1000⟩
      let g : Settings := { s.settings with windows := s.settings.windows.set place.val stored }
      if x.enabled = true ∧ ¬ stored.low < stored.high then
        Answers (.setWindow .own (windowBody place x)) s .setWindow .badField [] s
      else ∃ u, Answers (.setWindow .own (windowBody place x)) s .setWindow (if stored = x then .done else .doneClamped) [] u
        ∧ u.settings = g ∧ u.figuresCurrent
        ∧ (s.supply.latestVoltage = none → u = ({ s with settings := g } : State).evaluate .setting)
        ∧ (∀ v, s.supply.latestVoltage = some v →
          u = ((({ s with settings := g } : State).windowRules (g.matchWindow v)).1).evaluate .setting))
    ∧ (∀ x : Nat, x < 16777216 →
      let budget := min x 1800000
      ∃ u, Answers (.setWindow .own (defaultBudgetBody x)) s .setWindow
          (if budget - budget % 1000 = x then .done else .doneClamped) [] u
        ∧ u.settings = { s.settings with defaultBudget := budget - budget % 1000 } ∧ u.figuresCurrent
        ∧ (s.supply.latestVoltage = none → u =
          ({ s with settings := { s.settings with defaultBudget := budget - budget % 1000 } } : State).evaluate .setting)
        ∧ (∀ v, s.supply.latestVoltage = some v → u =
          ((({ s with settings := { s.settings with defaultBudget := budget - budget % 1000 } } : State).windowRules
            (s.settings.matchWindow v)).1).evaluate .setting))
    ∧ (∀ (place : Fin 4) (b : Byte) (rest : List Byte), rest.length = 7 → 2 ≤ b.toNat →
      Answers (.setWindow .own (byteOf (place.val + 1) :: b :: rest)) s .setWindow .badField [] s)
    ∧ (∀ (b : Byte) (rest : List Byte), rest.length ≤ 199 → 4 < b.toNat →
      Answers (.setWindow .own (b :: rest)) s .setWindow .badIndex [] s)
    ∧ Answers (.setWindow .own []) s .setWindow .badFrame [] s
    ∧ (∀ (b : Byte) (rest : List Byte), rest.length ≤ 199 →
      (b.toNat = 0 ∧ rest.length ≠ 3) ∨ (1 ≤ b.toNat ∧ b.toNat ≤ 4 ∧ rest.length ≠ 8) →
      Answers (.setWindow .own (b :: rest)) s .setWindow .badFrame [] s)

/-- SELECT_PROFILE, to the unit or broadcast: in HELD only the profile in force changes; in RUNNING the carried profile is in force, each admin difference is applied
for ports 1 to 56 in ascending order, then each priority difference in the same way, and one evaluation with cause SETTING follows; no run is made in between. By it
the figures are current, every entry has its port's new priority, and every port stands as its new admin setting says, where it stood so before. An index above 1 is
a BAD_INDEX. -/
def Obligations.SelectProfileSwitchesTheProfile : Prop :=
  ∀ (s : State) (i : Fin 2) (d : Dest), s.listening → s.line.restartPending = false →
    let old := s.settings.profiles.get s.settings.inForce
    let new := s.settings.profiles.get i
    let w : State := { s with settings := { s.settings with inForce := i } }
    let a : State := allPorts.foldl
      (fun v p =>
        match (old.get p).admin, (new.get p).admin with
        | false, true => v.enablePort p
        | true, false => (v.disablePort p).1
        | _, _ => v) w
    let b : State := allPorts.foldl
      (fun v p => if (old.get p).priority = (new.get p).priority then v else v.applyPriority p (new.get p).priority) a
    let u : State := match s.unit.unitState with
      | .held => w
      | .running => b.evaluate .setting
    ∃ t, exec (.selectProfile d [byteOf i.val]) s = .next t
      ∧ (d = .own → t = u.withReply 0x15 .done []) ∧ (d = .broadcast → t = u.hunting)
      ∧ t.settings = { s.settings with inForce := i }
      ∧ (s.unit.unitState = .held → t.ports = s.ports ∧ t.ceilings = s.ceilings ∧ t.ledger = s.ledger
        ∧ t.stack = s.stack ∧ t.queue = s.queue ∧ t.supply = s.supply ∧ t.notices = s.notices)
      ∧ (s.unit.unitState = .running → t.figuresCurrent
        ∧ (s.queuePriced → t.queuePriced)
        ∧ ((∀ p, (s.portSettings p).admin = false ↔ (s.port p).state = .disabled) →
          ∀ p, ((s.settings.profiles.get i).get p).admin = false ↔ (t.port p).state = .disabled))
      ∧ (d = .own → t.line.reply = some ⟨0x15, [0x00]⟩ ∧ t.line.receiver = .closed)
      ∧ (d = .broadcast → t.line.reply = s.line.reply ∧ t.line.receiver = .hunting)
      ∧ ∀ b : Byte, 2 ≤ b.toNat → Answers (.selectProfile .own [b]) s .selectProfile .badIndex [] s

/-- ENABLE writes ENABLED in the profile in force and sends a DISABLED port to SEARCH with a probe, keeping its counts, and leaves any other port where it is;
DISABLE writes DISABLED and the port ends DISABLED with no allocation, no mark, no queue entry and no place in the commit list or a shed record. -/
def Obligations.EnableAndDisableWriteAdmin : Prop :=
  ∀ (s : State) (p : Port), s.listening → s.unit.unitState = .running →
    (let g := s.settings.writePort s.settings.inForce p { s.portSettings p with admin := true }
     let u : State := { s with settings := g }
     Answers (.enable .own (byteOf (portNumber p)) []) s .portCommand .done []
      (if (s.port p).state = .disabled then
        u.updPort p fun r =>
          { r with
            state := .search, recyclePhase := none, lockoutCause := none, switch := .off, operation := .probe
            countdown := .running s.settings.timing.detectionInterval }
      else u))
    ∧ (∃ u, Answers (.disable .own (byteOf (portNumber p)) []) s .portCommand .done [] u
      ∧ u.settings = s.settings.writePort s.settings.inForce p { s.portSettings p with admin := false }
      ∧ (u.port p).state = .disabled
      ∧ (u.port p).faultCount = (s.port p).faultCount ∧ (u.port p).grade = (s.port p).grade
      ∧ s.settledPortsKept p u
      ∧ (s.commitExact → s.queueExact → s.marksPlaced → s.shedListed →
        (∀ q, (s.port q).allocation.isSome = (s.port q).state.committed) →
        (u.port p).mark = none ∧ (u.port p).allocation = none ∧ p ∉ u.ledger.commitList
          ∧ p ∉ u.queue.map (·.port) ∧ p ∉ u.listedPorts))

/-- CLEAR: in LOCKOUT both counts become 0, the lockout cause goes and the port enters SEARCH; in FAULT_HOLD the fault count becomes 0 and the holdoff runs
on; in any other state it is refused with WRONG_STATE. -/
def Obligations.ClearActsByState : Prop :=
  ∀ (s : State) (p : Port), s.listening → s.unit.unitState = .running →
    ((s.port p).state = .lockout → ∃ u, Answers (.clear .own (byteOf (portNumber p)) []) s .portCommand .done [] u
      ∧ u.port p = { s.port p with
        state := .search, faultCount := 0, lockoutCause := none, recyclePhase := none, switch := .off, operation := .probe
        countdown := .running s.settings.timing.detectionInterval }
      ∧ s.otherPortsKept p u
      ∧ (∀ c, u.ceiling c = if ceilingPort c = p then { s.ceiling c with recycleCount := 0 } else s.ceiling c)
      ∧ s.sameHost u ∧ u.supply = s.supply ∧ u.ledger = s.ledger ∧ u.stack = s.stack ∧ u.queue = s.queue
      ∧ u.notices = s.notices)
    ∧ ((s.port p).state = .faultHold → Answers (.clear .own (byteOf (portNumber p)) []) s .portCommand .done []
      (s.updPort p fun r => { r with faultCount := 0 }))
    ∧ ((s.port p).state ≠ .lockout → (s.port p).state ≠ .faultHold →
      Answers (.clear .own (byteOf (portNumber p)) []) s .portCommand .wrongState [] s)

/-- RECYCLE: a CEILING port in ON enters RECYCLE in OFF_TIME with its allocation, capped flag and commit-list place kept, supervision ended and the count
unchanged, and RECYCLED is posted with the forced flag; in another state WRONG_STATE; a SEAT port NOT_CEILING. -/
def Obligations.ForcedRecycleOfACeilingPort : Prop :=
  ∀ (s : State), s.listening → s.unit.unitState = .running →
    (∀ c : Ceiling, (s.port (ceilingPort c)).state = .on →
      ∃ u, Answers (.recycle .own (byteOf (portNumber (ceilingPort c))) []) s .portCommand .done [] u
        ∧ u.port (ceilingPort c) = { s.port (ceilingPort c) with
          state := .recycle, recyclePhase := some .offTime, lockoutCause := none, switch := .off, operation := .none
          countdown := .running (1000 * s.settings.timing.recycleOffTime)
          supervision := .unsupervised, tolerance := .idle, excursion := none }
        ∧ s.otherPortsKept (ceilingPort c) u
        ∧ u.ceiling c = { s.ceiling c with active := false, linkCountdown := .idle, stableCountdown := .idle }
        ∧ s.otherCeilingsKept c u
        ∧ u.notices = (s.post (.recycled c (s.ceiling c).recycleCount true)).notices
        ∧ s.sameHost u ∧ u.supply = s.supply ∧ u.ledger = s.ledger ∧ u.stack = s.stack ∧ u.queue = s.queue)
    ∧ (∀ c : Ceiling, (s.port (ceilingPort c)).state ≠ .on →
      Answers (.recycle .own (byteOf (portNumber (ceilingPort c))) []) s .portCommand .wrongState [] s)
    ∧ (∀ p : Port, p.val < 48 → Answers (.recycle .own (byteOf (portNumber p)) []) s .portCommand .notCeiling [] s)

/-- SHED_TO, to the unit or broadcast, sets the imposed cap clamped to 1 800 000 mW or removes it, and evaluates once with cause IMPOSED, by which the held
figures are current; it posts nothing of its own; another selector is a BAD_FIELD and a body of another length a BAD_FRAME. -/
def Obligations.ShedToImposesTheCap : Prop :=
  ∀ (s : State) (cap : Option Nat), s.listening → s.line.restartPending = false → (∀ v, cap = some v → v < 16777216) →
    (let stored := cap.map fun v => min v 1800000
     let u := ({ s with ledger := { s.ledger with imposedCap := stored } } : State).evaluate .imposed
     Answers (.shedTo .own (shedToBody cap)) s .shedTo (if stored = cap then .done else .doneClamped) [] u
      ∧ exec (.shedTo .broadcast (shedToBody cap)) s =
        .next { u with line := { u.line with receiver := .hunting, buffer := [], byteGap := .idle } }
      ∧ u.ledger.imposedCap = stored ∧ u.figuresCurrent ∧ s.sameHost u)
    ∧ (∀ (b : Byte) (rest : List Byte), rest.length = 3 → 2 ≤ b.toNat →
      Answers (.shedTo .own (b :: rest)) s .shedTo .badField [] s)
    ∧ (∀ body : List Byte, body.length ≤ 200 → body.length ≠ 4 → Answers (.shedTo .own body) s .shedTo .badFrame [] s)

/-- READ_LEDGER, READ_QUEUE and READ_STACK change nothing and answer with the bytes that section 11.3 lays out, 42 of them; 7 and 7 for each of at most 27 entries from
the start position; 3, or 11 and 3 for each entry of the record at the depth. A position outside 1 to 56 or a depth outside 1 to 6 is a BAD_INDEX. The figure of a
running hold is the model's reading, log entry 12. -/
def Obligations.ReadsReportAndChangeNothing : Prop :=
  ∀ (s : State), s.listening →
    Answers (.readLedger .own []) s .readLedger .done s.readLedgerBody s ∧ s.readLedgerBody.length + 1 = 42
    ∧ (∀ b : Byte, 1 ≤ b.toNat → b.toNat ≤ 56 →
      let listed := (s.queue.drop (b.toNat - 1)).take 27
      let content : List Byte :=
        [byteOf s.queue.length, byteOf (allPorts.countP fun p => (s.port p).state == .inrush),
          byteOf s.settings.timing.inrushSlots, byteOf s.settings.timing.passLimit, b, byteOf listed.length]
          ++ listed.flatMap s.readQueueEntry
      Answers (.readQueue .own [b]) s .readQueue .done content s ∧ content.length + 1 = 7 + 7 * listed.length
        ∧ listed.length = min (s.queue.length - (b.toNat - 1)) 27)
    ∧ (∀ b : Byte, (b.toNat = 0 ∨ 56 < b.toNat) → Answers (.readQueue .own [b]) s .readQueue .badIndex [] s)
    ∧ (∀ b : Byte, 1 ≤ b.toNat → b.toNat ≤ 6 →
      (∀ r, s.stack[b.toNat - 1]? = some r →
        Answers (.readStack .own [b]) s .readStack .done ([byteOf s.stack.length, b] ++ r.readBody) s
          ∧ ([byteOf s.stack.length, b] ++ r.readBody).length + 1 = 11 + 3 * r.entries.length)
      ∧ (s.stack.length < b.toNat → Answers (.readStack .own [b]) s .readStack .done [byteOf s.stack.length, b] s))
    ∧ (∀ b : Byte, (b.toNat = 0 ∨ 6 < b.toNat) → Answers (.readStack .own [b]) s .readStack .badIndex [] s)

/-- The reads that clear. IDENTIFY reports the part, its address and straps, the unit state, the reset cause and the line error count, and then clears
the count if its flag is yes. READ_PORT reports the port's record and settings in the 24 bytes of section 11.3 and clears the peak excursion, after reporting it,
exactly when its flag is yes; a port outside 1 to 56 is a BAD_PORT. READ_GAP reports the gap capture, or zeros for an empty one, and the gaps-since-read count, then
empties the one and zeroes the other, and leaves the measurement of a gap in progress. A flag above 1 is a BAD_FIELD, and nothing else changes. -/
def Obligations.ReportsAreMadeBeforeTheyClear : Prop :=
  (∀ (s : State) (f : Byte), s.listening →
     (f = 0 ∨ f = 1 → Answers (.identify .own [f]) s .identify .done
       ([0xE8, 0x15, 1, byteOf (if s.unit.straps.addr = 0 then 31 else s.unit.straps.addr.val),
         if s.unit.straps.addr = 0 then 1 else 0, byteOf s.unit.straps.auto.val, if s.unit.straps.baud then 1 else 0,
         (match s.unit.unitState with | .held => 0 | .running => 1),
         (match s.unit.resetCause with | .power => 1 | .pin => 2 | .restart => 3),
         byteOf s.line.errorCount, byteOf (s.line.errorCount / 256)])
       { s with line := { s.line with errorCount := if f = 1 then 0 else s.line.errorCount } })
     ∧ (f ≠ 0 → f ≠ 1 → Answers (.identify .own [f]) s .identify .badField [] s))
  ∧ (∀ (s : State), s.listening →
     (∀ (p : Port) (f : Byte), f = 0 ∨ f = 1 →
       Answers (.readPort .own [byteOf (portNumber p), f]) s .readPort .done (s.readPortBody p)
           (s.updPort p fun r => { r with peakExcursion := if f = 1 then 0 else r.peakExcursion })
         ∧ (s.readPortBody p).length + 1 = 25)
     ∧ (∀ b f : Byte, (b.toNat = 0 ∨ 56 < b.toNat) → Answers (.readPort .own [b, f]) s .readPort .badPort [] s)
     ∧ (∀ (p : Port) (f : Byte), f ≠ 0 → f ≠ 1 →
       Answers (.readPort .own [byteOf (portNumber p), f]) s .readPort .badField [] s))
  ∧ (∀ (s : State), s.listening →
     Answers (.readGap .own []) s .readGap .done
       ((match s.supply.capture with
         | none => [0, 0, 0, 0, 0, 0, 0]
         | some g => [1, byteOf g.duration, byteOf (g.duration / 256), byteOf g.lowest, byteOf (g.lowest / 256),
           byteOf g.shed, if g.extended then 1 else 0]) ++ [byteOf s.supply.gapsSinceRead])
       { s with supply := { s.supply with capture := none, gapsSinceRead := 0 } })

/-- TAKE_NOTICES removes up to its maximum, taken into 1 to 8, URGENT before ROUTINE and each oldest first, reports the overflow flag and what is still held,
clears the flag, and touches nothing else; ATTN is released exactly when nothing is left. Each notice is delivered in the 11 bytes of section 11.4, with the class
bit, port and values that sections 9.7 and 11.4 give its kind. -/
def Obligations.TakeNoticesRemovesUrgentFirst : Prop :=
  ∀ (s : State) (b : Byte), s.listening →
    let n := max 1 (min b.toNat 8)
    let removed := (s.notices.urgent ++ s.notices.routine).take n
    let left : NoticeQueue := ⟨s.notices.urgent.drop n, s.notices.routine.drop (n - s.notices.urgent.length), false⟩
    left.urgent ++ left.routine = (s.notices.urgent ++ s.notices.routine).drop n
      ∧ (∃ content, Answers (.takeNotices .own [b]) s .takeNotices (if n = b.toNat then .done else .doneClamped) content
          { s with notices := left }
        ∧ content = [byteOf removed.length, if s.notices.overflow then 1 else 0, byteOf left.urgent.length,
            byteOf left.routine.length] ++ removed.flatMap Notice.record
        ∧ content.length + 1 = 5 + 11 * removed.length)
      ∧ (({ s with notices := left } : State).attnLow = true ↔ n < s.notices.count)

/-- A posting with fewer than 48 notices held joins the end of the class that section 9.7 gives its kind, with the unit clock as its stamp, and displaces none; one
that finds 48 is discarded and sets the overflow flag; either way ATTN is then low outside a reset. -/
def Obligations.PostingJoinsItsClassOrOverflows : Prop :=
  ∀ (s : State) (b : NoticeBody),
    (s.notices.count < 48 → (s.post b).notices =
      if b.row.2.1 then ⟨s.notices.urgent ++ [⟨b, BitVec.ofNat 32 s.now⟩], s.notices.routine, s.notices.overflow⟩
      else ⟨s.notices.urgent, s.notices.routine ++ [⟨b, BitVec.ofNat 32 s.now⟩], s.notices.overflow⟩)
    ∧ (48 ≤ s.notices.count → (s.post b).notices = ⟨s.notices.urgent, s.notices.routine, true⟩)
    ∧ (s.awake → (s.post b).attnLow = true)

/-! ### The supply -/

/-- A voltage matches the lowest-numbered enabled window of 1 to 4 with low ≤ V < high in the table as it stands, and window 0 if there is none; a
disabled window is passed over whatever its bounds. The first sample's window is that match in the table of that moment. -/
def Obligations.VoltageMatchesTheLowestWindow : Prop :=
  (∀ (g : Settings) (v : Nat) (w : WindowIndex),
    let holds : Fin 4 → Prop := fun i =>
      (g.windows.get i).enabled = true ∧ (g.windows.get i).low ≤ v ∧ v < (g.windows.get i).high
    g.matchWindow v = w ↔
      ((∃ i : Fin 4, w.val = i.val + 1 ∧ holds i ∧ ∀ j, j < i → ¬ holds j) ∨ (w = 0 ∧ ∀ i, ¬ holds i)))
  ∧ ∀ (s : State) (raw : Nat), s.awake → s.supply.activeWindow = none →
    ∃ t, exec (.voltageSample raw) s = .next t ∧ t.supply.activeWindow = some (s.settings.matchWindow (min raw 1500))

/-- VOLTAGE_SAMPLE, taken as at most 1500 dV, becomes the latest voltage and feeds a gap's lowest voltage. The first one makes its window active at once
without a notice; a match of the active window cancels settling; a window of equal or lower budget is active at once, with WINDOW_CHANGE; a window of
higher budget starts or continues settling, or is active at once for a settle time of 0. A switch, and the first sample, is followed by one evaluation
with cause WINDOW. -/
def Obligations.VoltageSampleAppliesTheWindowRules : Prop :=
  ∀ (s : State) (raw : Nat), s.awake →
    let v := min raw 1500
    let m := s.settings.matchWindow v
    let base : SupplyMonitor :=
      { s.supply with
        latestVoltage := some v
        measurement := s.supply.measurement.map fun g =>
          { g with lowest := some (match g.lowest with | none => v | some l => min l v) } }
    let active (fell : Bool) : State :=
      ({ s with supply := { base with activeWindow := some m, candidate := none, settle := .idle } } : State).post
        (.windowChange m (s.settings.windowBudget m) fell)
    (s.supply.activeWindow = none → exec (.voltageSample raw) s =
      .next (({ s with supply := { base with activeWindow := some m, candidate := none, settle := .idle } } : State).evaluate
        .window))
    ∧ ∀ a, s.supply.activeWindow = some a →
      (m = a → exec (.voltageSample raw) s = .next { s with supply := { base with candidate := none, settle := .idle } })
      ∧ (m ≠ a → s.settings.windowBudget m < s.settings.windowBudget a →
        exec (.voltageSample raw) s = .next ((active true).evaluate .window))
      ∧ (m ≠ a → s.settings.windowBudget m = s.settings.windowBudget a →
        exec (.voltageSample raw) s = .next ((active false).evaluate .window))
      ∧ (s.settings.windowBudget a < s.settings.windowBudget m → s.supply.candidate = some m →
        exec (.voltageSample raw) s = .next { s with supply := base })
      ∧ (s.settings.windowBudget a < s.settings.windowBudget m → s.supply.candidate ≠ some m →
        s.settings.supply.settleTime ≠ 0 → exec (.voltageSample raw) s =
          .next { s with supply := { base with candidate := some m, settle := .running s.settings.supply.settleTime } })
      ∧ (s.settings.windowBudget a < s.settings.windowBudget m → s.supply.candidate ≠ some m →
        s.settings.supply.settleTime = 0 → exec (.voltageSample raw) s = .next ((active false).evaluate .window))

/-- LINE_PRESENT_SAMPLE: an equal sample zeroes the run, the first and second differing ones raise it, and the third is accepted. An accepted loss in PRESENT
or RECOVERY begins a gap: GAP_RIDE, the measurement started, the ride limit loaded, GAP_BEGIN, one evaluation. An accepted return ends it: RECOVERY with
that state's cap, captured and counted, GAP_END, the recovery delay loaded (or taken at once when 0), one evaluation. -/
def Obligations.LineSampleBeginsAndEndsGaps : Prop :=
  ∀ (s : State) (x : Bool), s.awake →
    (x = s.supply.linePresent →
      exec (.linePresentSample x) s = .next { s with supply := { s.supply with lineRun := 0 } })
    ∧ (x ≠ s.supply.linePresent → s.supply.lineRun < 2 → exec (.linePresentSample x) s =
      .next { s with supply := { s.supply with lineRun := s.supply.lineRun + 1 } })
    ∧ (s.supply.linePresent = true → s.supply.lineRun = 2 → (s.supply.state = .present ∨ s.supply.state = .recovery) →
      exec (.linePresentSample false) s =
        .next (State.evaluate
          (({ s with supply :=
            { s.supply with
              linePresent := false, lineRun := 0, state := .gapRide, recovery := .idle, recoveryCap := none
              measurement := some ⟨s.now, s.supply.latestVoltage, 0, false⟩
              rideLimit := .running (1000 * s.settings.supply.rideLimit) } } : State).post
            (.gapBegin (s.supply.latestVoltage.getD 0))) .gapRide))
    ∧ (∀ g cap, s.supply.linePresent = false → s.supply.lineRun = 2 → s.supply.measurement = some g →
      ((s.supply.state = .gapRide ∧ cap = .ride) ∨ (s.supply.state = .gapExtended ∧ cap = .extended)) →
      let d := min (s.now - g.start) 65535
      let low := g.lowest.getD 0
      let ended : SupplyMonitor :=
        { s.supply with
          linePresent := true, lineRun := 0, rideLimit := .idle, measurement := none
          gapsSinceRead := min (s.supply.gapsSinceRead + 1) 255
          capture := some (s.supply.capture.getD ⟨d, low, g.shed, g.extended⟩) }
      (s.settings.supply.recoveryDelay ≠ 0 → exec (.linePresentSample true) s =
        .next (State.evaluate
          (({ s with supply :=
            { ended with
              state := .recovery, recoveryCap := some cap, recovery := .running s.settings.supply.recoveryDelay } } :
            State).post (.gapEnd low d))
          (match cap with | .ride => .gapRide | .extended => .gapExtended)))
      ∧ (s.settings.supply.recoveryDelay = 0 → exec (.linePresentSample true) s =
        .next (State.evaluate
          (({ s with supply := { ended with state := .present, recoveryCap := none, recovery := .idle } } : State).post
            (.gapEnd low d)) .window)))

/-- The Supply Monitor's countdowns. SETTLE_EXPIRY makes the candidate active and posts WINDOW_CHANGE as ROUTINE; RIDE_LIMIT_EXPIRY in GAP_RIDE enters
GAP_EXTENDED, sets the extended flag and posts RIDE_LIMIT with the duration so far, in the ticks counted since the loss (log entry 30); RECOVERY_EXPIRY in RECOVERY
returns to PRESENT without a gap cap and without a notice of its own. Each is followed by one evaluation, by which the held figures are current; none does anything
when its countdown has not come due. -/
def Obligations.SupplyCountdownsExpire : Prop :=
  ∀ s : State, s.awake →
    (∀ g, s.supply.rideLimit = .due → s.supply.state = .gapRide → s.supply.measurement = some g →
      ∃ t, exec .rideLimitExpiry s = .next t
        ∧ t = State.evaluate
          (({ s with supply :=
            { s.supply with
              rideLimit := .idle, state := .gapExtended, measurement := some { g with extended := true } } } : State).post
            (.rideLimit (s.now - g.start))) .gapExtended
        ∧ t.supply.state = .gapExtended ∧ t.figuresCurrent ∧ s.sameHost t)
    ∧ (s.supply.rideLimit ≠ .due → exec .rideLimitExpiry s = .next s)
    ∧ (s.supply.recovery = .due → s.supply.state = .recovery →
      ∃ t, exec .recoveryExpiry s = .next t
        ∧ t = State.evaluate
          { s with supply := { s.supply with state := .present, recoveryCap := none, recovery := .idle } } .window
        ∧ t.disturbed = false ∧ t.figuresCurrent ∧ s.sameHost t)
    ∧ (s.supply.recovery ≠ .due → exec .recoveryExpiry s = .next s)
    ∧ (∀ w, s.supply.candidate = some w → s.supply.settle = .due →
      ∃ t, exec .settleExpiry s = .next t
        ∧ t = State.evaluate
          (({ s with supply := { s.supply with activeWindow := some w, candidate := none, settle := .idle } } : State).post
            (.windowChange w (s.settings.windowBudget w) false)) .window
        ∧ t.supply.activeWindow = some w ∧ t.supply.candidate = none ∧ t.supply.settle = .idle ∧ t.figuresCurrent
        ∧ s.sameHost t)
    ∧ (s.supply.candidate = none ∨ s.supply.settle ≠ .due → exec .settleExpiry s = .next s)

/-- TEMPERATURE_SAMPLE: a value from -40 to 125 is taken as T; another value or a fault report is taken as 125 and starts a sensor fault run, whose
first sample alone posts TEMP_SENSOR_FAULT. An evaluation with cause DERATE follows exactly when the derate changes. -/
def Obligations.TemperatureSampleSetsTheDerate : Prop :=
  ∀ (s : State) (x : TempSample), s.awake →
    let good : Option Int := match x with
      | .reading v => if -40 ≤ v ∧ v ≤ 125 then some v else none
      | .faultReport => none
    let t := good.getD 125
    let u : State :=
      { s with supply := { s.supply with temperature := t, sensorFaultRun := good.isNone } }
    let w := if good.isNone ∧ s.supply.sensorFaultRun = false then
        u.post (match x with | .reading v => .sensorOutOfRange v | .faultReport => .sensorFaultReported)
      else u
    let k := s.settings.supply
    exec (.temperatureSample x) s =
      .next (if k.derateSlope * (t - k.derateStart).toNat = k.derateSlope * (s.supply.temperature - k.derateStart).toNat
        then w else w.evaluate .derate)

/-! ### The port sequence -/

/-- DETECTION_RESULT in SEARCH with a probe outstanding: VALID goes to CLASSIFY with a grade command and 50 ms; OPEN, INVALID and SHORT stay in SEARCH, set
the short-seen flag by the result, and take a mark away, which alone makes a restore run; SHORT posts PORT_SHORT_SEEN when the flag was no. Otherwise it is ignored.
That the notice stands before those of the run is the model's choice, log entry 11. -/
def Obligations.DetectionResultInSearch : Prop :=
  ∀ (s : State) (p : Port), s.awake →
    ((s.port p).state = .search → (s.port p).operation = .probe →
      exec (.detectionResult p .valid) s = .next (s.updPort p fun r =>
        { r with
          state := .classify, recyclePhase := none, lockoutCause := none, shortSeen := false, operation := .grade
          countdown := .running 50 })
      ∧ ∀ d : Detection, d ≠ .valid →
        let v : State := s.updPort p fun r => { r with operation := .none, shortSeen := decide (d = .short), mark := none }
        let u : State := if d = .short ∧ (s.port p).shortSeen = false then v.post (.portShortSeen p) else v
        ∃ t, exec (.detectionResult p d) s = .next t
          ∧ t = (if (s.port p).mark.isSome = true then u.restoreRun else u)
          ∧ t.port p = { s.port p with operation := .none, shortSeen := decide (d = .short), mark := none }
          ∧ s.settledPortsKept p t ∧ s.sameHost t ∧ t.supply = s.supply ∧ t.ceilings = s.ceilings)
    ∧ ((s.port p).state ≠ .search ∨ (s.port p).operation ≠ .probe →
      ∀ d : Detection, exec (.detectionResult p d) s = .next s)

/-- The expiries of the state countdown that touch their port alone. DETECTION_EXPIRY in SEARCH reloads the interval and probes if nothing is outstanding;
CLASSIFY_LIMIT_EXPIRY in CLASSIFY returns to SEARCH with a probe, the mark kept; FORGIVENESS_EXPIRY in ON zeroes the fault count; HOLDOFF_EXPIRY in
FAULT_HOLD goes to LOCKOUT with cause FAULT_LIMIT and PORT_LOCKOUT when the count has reached the limit, to SEARCH otherwise. In another state, or with the
countdown not come due, each does nothing. -/
def Obligations.StateCountdownsExpireByState : Prop :=
  ∀ (s : State) (p : Port), s.awake →
    let probing (r : PortRecord) : PortRecord :=
      { r with
        state := .search, recyclePhase := none, lockoutCause := none, switch := .off, operation := .probe
        countdown := .running s.settings.timing.detectionInterval }
    ((s.port p).countdown = .due →
      ((s.port p).state = .search → exec (.detectionExpiry p) s = .next (s.updPort p fun r =>
        { r with
          countdown := .running s.settings.timing.detectionInterval
          operation := if r.operation = .none then .probe else r.operation }))
      ∧ ((s.port p).state = .classify → exec (.classifyLimitExpiry p) s = .next (s.updPort p probing))
      ∧ ((s.port p).state = .on →
        exec (.forgivenessExpiry p) s = .next (s.updPort p fun r => { r with faultCount := 0, countdown := .idle }))
      ∧ ((s.port p).state = .faultHold → (s.port p).faultCount < s.settings.timing.faultLimit →
        exec (.holdoffExpiry p) s = .next (s.updPort p probing))
      ∧ ((s.port p).state = .faultHold → s.settings.timing.faultLimit ≤ (s.port p).faultCount →
        exec (.holdoffExpiry p) s = .next ((s.updPort p fun r =>
          { r with
            state := .lockout, recyclePhase := none, lockoutCause := some .faultLimit, switch := .off
            operation := .none, countdown := .idle }).post (.portLockout p .faultLimit))))
    ∧ ((s.port p).state ≠ .search ∨ (s.port p).countdown ≠ .due → exec (.detectionExpiry p) s = .next s)
    ∧ ((s.port p).state ≠ .classify ∨ (s.port p).countdown ≠ .due → exec (.classifyLimitExpiry p) s = .next s)
    ∧ ((s.port p).state ≠ .on ∨ (s.port p).countdown ≠ .due → exec (.forgivenessExpiry p) s = .next s)
    ∧ ((s.port p).state ≠ .faultHold ∨ (s.port p).countdown ≠ .due → exec (.holdoffExpiry p) s = .next s)

/-- GRADE_RESULT in CLASSIFY with a grade command outstanding: 0 to 6 is written, DEVICE_FOUND is posted for an unmarked port, and the port joins the queue,
MARKED if it carries a mark, with one arbiter run; it ends QUEUED or granted. 7 goes to FAULT_HOLD with cause GRADE_INVALID, the grade absent and the mark
gone. Otherwise it is ignored. That DEVICE_FOUND stands before the notices of the run is the model's choice, log entry 11. -/
def Obligations.GradeResultJoinsTheQueue : Prop :=
  ∀ (s : State) (p : Port) (g : Fin 8), s.awake →
    ((s.port p).state = .classify → (s.port p).operation = .grade →
      (∀ h : g.val < 7, s.entryOf p = none →
        let found : State := if (s.port p).mark.isSome then s else s.post (.deviceFound p ⟨g.val, h⟩)
        let kind : EntryKind := if (s.port p).mark.isSome then .marked else .ordinary
        ∃ t, exec (.gradeResult p g) s = .next t
          ∧ t = ({ found.updPort p fun r =>
              { r with
                state := .queued, recyclePhase := none, lockoutCause := none, operation := .none, countdown := .idle
                grade := some ⟨g.val, h⟩ } with
            queue := placeEntry ⟨p, s.priorityOf p, kind, s.queue.length + 1, 0⟩ s.queue } : State).arbiterRun
          ∧ (t.port p).grade = some ⟨g.val, h⟩ ∧ ((t.port p).state = .queued ∨ (t.port p).state = .inrush)
          ∧ s.settledPortsKept p t ∧ s.sameHost t ∧ t.supply = s.supply ∧ t.ceilings = s.ceilings)
      ∧ (g.val = 7 → ∃ t, exec (.gradeResult p g) s = .next t
        ∧ t.port p = { s.port p with
          state := .faultHold, recyclePhase := none, lockoutCause := none, operation := .none, switch := .off, grade := none
          mark := none, faultCount := min ((s.port p).faultCount + 1) 15, lastFault := some .gradeInvalid
          countdown := .running (1000 * s.settings.timing.faultHoldoff) }
        ∧ s.settledPortsKept p t ∧ s.sameHost t ∧ t.supply = s.supply ∧ t.ceilings = s.ceilings
        ∧ ((s.port p).mark = none → s.otherPortsKept p t
          ∧ t.notices = (s.post (.portFault p .gradeInvalid (min ((s.port p).faultCount + 1) 15))).notices)))
    ∧ ((s.port p).state ≠ .classify ∨ (s.port p).operation ≠ .grade → exec (.gradeResult p g) s = .next s)

/-- PRESENCE_LOST: from QUEUED the entry leaves the queue and the port returns to SEARCH with its mark kept; from INRUSH or ON the port is released and returns
to SEARCH; DEVICE_GONE carries the state left and the allocation released. In any other state it is ignored. That DEVICE_GONE stands before the notices of the run
that follows is the model's choice, log entry 11. -/
def Obligations.PresenceLostReturnsToSearch : Prop :=
  ∀ (s : State) (p : Port), s.awake →
    ((s.port p).state = .queued → ∃ t, exec (.presenceLost p) s = .next t
      ∧ t = (((s.leaveQueue p).updPort p fun r =>
        { r with
          state := .search, recyclePhase := none, lockoutCause := none, switch := .off, operation := .probe
          countdown := .running s.settings.timing.detectionInterval }).post (.deviceGone p .queued 0)).arbiterRun
      ∧ (t.port p).state = .search ∧ (t.port p).mark = (s.port p).mark ∧ p ∉ t.queue.map (·.port)
      ∧ s.settledPortsKept p t ∧ s.sameHost t)
    ∧ ((s.port p).state = .inrush ∨ (s.port p).state = .on → ∃ t, exec (.presenceLost p) s = .next t
      ∧ t.port p = { s.port p with
        state := .search, recyclePhase := none, lockoutCause := none, switch := .off, operation := .probe
        countdown := .running s.settings.timing.detectionInterval, allocation := none, capped := false, currentLimit := none
        supervision := .unsupervised, tolerance := .idle, excursion := none }
      ∧ p ∉ t.ledger.commitList
      ∧ t = ((((s.release p).enterSearch p).post (.deviceGone p (s.port p).state (s.allocationOf p)))).restoreRun
      ∧ s.settledPortsKept p t ∧ s.sameHost t ∧ t.supply = s.supply)
    ∧ ((s.port p).state ≠ .queued → (s.port p).state ≠ .inrush → (s.port p).state ≠ .on →
      exec (.presenceLost p) s = .next s)

/-- RAMP_COMPLETE in INRUSH: the port enters ON in WATCHING with the forgiveness time loaded, its allocation kept, and on a CEILING port link supervision is
ACTIVE with the countdown of its link state loaded; one arbiter run follows. In any other state it is ignored. -/
def Obligations.RampCompleteEntersOn : Prop :=
  ∀ (s : State) (p : Port), s.awake →
    let supervised (r : CeilingRecord) : CeilingRecord :=
      match r.linkState with
      | .down => { r with active := true, linkCountdown := .running (1000 * s.settings.timing.recycleWait) }
      | .up => { r with active := true, stableCountdown := .running (1000 * s.settings.timing.linkStableTime) }
    let entered : State := s.updPort p fun r =>
      { r with
        state := .on, recyclePhase := none, lockoutCause := none, operation := .none, switch := .on
        countdown := .running (1000 * s.settings.timing.forgivenessTime), supervision := .watching, tolerance := .idle
        excursion := none }
    let u : State := if h : 48 ≤ p.val then entered.updCeiling ⟨p.val - 48, by omega⟩ supervised else entered
    ((s.port p).state = .inrush → ∃ t, exec (.rampComplete p) s = .next t ∧ t = u.arbiterRun
      ∧ t.port p = entered.port p
      ∧ (∀ c : Ceiling, t.ceiling c = if ceilingPort c = p then supervised (s.ceiling c) else s.ceiling c)
      ∧ s.settledPortsKept p t ∧ s.sameHost t ∧ t.supply = s.supply)
    ∧ ((s.port p).state ≠ .inrush → exec (.rampComplete p) s = .next s)

/-- A fault of a powered port: SHORT in INRUSH or ON, INRUSH_LIMIT_EXPIRY come due in INRUSH, OVERLOAD in ON while TRIPPED. The port is released and enters
FAULT_HOLD with its cause, the count raised up to 15 and the holdoff loaded, link supervision ends on a CEILING port, PORT_FAULT is posted, and a restore run follows.
In another state each is ignored. That PORT_FAULT stands before the notices of the run is the model's choice, log entry 11. -/
def Obligations.PoweredFaultsEnterFaultHold : Prop :=
  ∀ (s : State) (p : Port), s.awake →
    (∀ (c : Instr) (cause : FaultCause),
      (c = .short p ∧ cause = .short ∧ ((s.port p).state = .inrush ∨ (s.port p).state = .on))
      ∨ (c = .inrushLimitExpiry p ∧ cause = .inrushTimeout ∧ (s.port p).state = .inrush
        ∧ (s.port p).countdown = .due)
      ∨ (c = .overload p ∧ cause = .overload ∧ (s.port p).state = .on ∧ (s.port p).supervision = .tripped) →
      ∃ t u, exec c s = .next t ∧ t = State.restoreRun u
        ∧ t.port p = { s.port p with
          state := .faultHold, recyclePhase := none, lockoutCause := none, operation := .none, switch := .off
          allocation := none, capped := false, currentLimit := none, supervision := .unsupervised, tolerance := .idle
          excursion := none, faultCount := min ((s.port p).faultCount + 1) 15, lastFault := some cause
          countdown := .running (1000 * s.settings.timing.faultHoldoff) }
        ∧ u.notices = (s.post (.portFault p cause (min ((s.port p).faultCount + 1) 15))).notices
        ∧ s.otherPortsKept p u ∧ u.stack = s.stack ∧ u.queue = s.queue
        ∧ (∀ c, t.ceiling c =
          if ceilingPort c = p then { s.ceiling c with active := false, linkCountdown := .idle, stableCountdown := .idle }
          else s.ceiling c)
        ∧ u.ledger.commitList = s.ledger.commitList.filter (· != p) ∧ p ∉ t.ledger.commitList
        ∧ s.settledPortsKept p t ∧ s.sameHost t ∧ t.supply = s.supply)
    ∧ ((s.port p).state ≠ .inrush → (s.port p).state ≠ .on → exec (.short p) s = .next s)
    ∧ ((s.port p).state ≠ .inrush ∨ (s.port p).countdown ≠ .due → exec (.inrushLimitExpiry p) s = .next s)
    ∧ ((s.port p).state ≠ .on ∨ (s.port p).supervision ≠ .tripped → exec (.overload p) s = .next s)

/-- Overcurrent supervision in ON: a begin while WATCHING notes the moment and loads the tolerance; an end while TIMING raises the peak to the duration, which is
never above the tolerance (log entry 13), and, with the supply undisturbed, counts the excursion, posting EXCURSIONS and zeroing the count at the threshold; a tolerance
come due while TIMING trips the port and leaves the peak and the count. In any other supervision state each is ignored. -/
def Obligations.OvercurrentIsTimedAndCounted : Prop :=
  ∀ (s : State) (p : Port), s.awake →
    ((s.port p).state = .on → (s.port p).supervision = .watching → exec (.overcurrentBegin p) s =
      .next (s.updPort p fun r =>
        { r with
          supervision := .timing, tolerance := .running s.settings.timing.overcurrentTolerance
          excursion := some ⟨s.now, s.settings.timing.overcurrentTolerance⟩ }))
    ∧ ((s.port p).supervision ≠ .watching → exec (.overcurrentBegin p) s = .next s)
    ∧ (∀ x, (s.port p).state = .on → (s.port p).supervision = .timing → (s.port p).excursion = some x →
      let d := min (s.now - x.start) x.tolerance
      let peak := min (max (s.port p).peakExcursion d) 65535
      let raised := min ((s.port p).excursionCount + 1) 255
      ∃ t, exec (.overcurrentEnd p) s = .next t
        ∧ t.port p = { s.port p with
          supervision := .watching, tolerance := .idle, excursion := none, peakExcursion := peak
          excursionCount :=
            if s.supply.state ≠ .present then (s.port p).excursionCount
            else if s.settings.timing.excursionThreshold ≤ raised then 0 else raised }
        ∧ t.notices =
          (if s.supply.state = .present ∧ s.settings.timing.excursionThreshold ≤ raised then
            s.post (.excursions p raised peak) else s).notices
        ∧ s.otherPortsKept p t ∧ s.sameHost t ∧ t.supply = s.supply ∧ t.ledger = s.ledger ∧ t.stack = s.stack
        ∧ t.queue = s.queue ∧ t.ceilings = s.ceilings)
    ∧ ((s.port p).supervision ≠ .timing → exec (.overcurrentEnd p) s = .next s)
    ∧ ((s.port p).supervision = .timing → (s.port p).tolerance = .due → exec (.toleranceExpiry p) s =
      .next (s.updPort p fun r => { r with supervision := .tripped, tolerance := .idle, excursion := none }))
    ∧ ((s.port p).supervision ≠ .timing ∨ (s.port p).tolerance ≠ .due →
      exec (.toleranceExpiry p) s = .next s)

/-! ### Ceiling ports -/

/-- LINK_SENSE_SAMPLE: a sample equal to the link state zeroes the run, the first and second differing ones raise it, and the third changes the link state and
posts LINK_CHANGE; under ACTIVE supervision the change to DOWN swaps the stable countdown for the recycle wait and the change to UP the link countdown for
the link stable time. STABLE_EXPIRY come due under ACTIVE supervision zeroes the recycle count and does nothing otherwise. -/
def Obligations.LinkSamplesAreFiltered : Prop :=
  ∀ (s : State) (c : Ceiling) (level : LinkLevel), s.awake →
    let seen : LinkState := match level with | .low => .up | .high => .down
    let sampled (f : CeilingRecord → CeilingRecord) : State := s.updCeiling c fun r => f { r with sinceSample := 0 }
    (seen = (s.ceiling c).linkState →
      exec (.linkSenseSample c level) s = .next (sampled fun r => { r with filterRun := 0 }))
    ∧ (seen ≠ (s.ceiling c).linkState → (s.ceiling c).filterRun < 2 →
      exec (.linkSenseSample c level) s = .next (sampled fun r => { r with filterRun := (s.ceiling c).filterRun + 1 }))
    ∧ (seen ≠ (s.ceiling c).linkState → 2 ≤ (s.ceiling c).filterRun → exec (.linkSenseSample c level) s =
      .next ((sampled fun r =>
        if r.active then
          match seen with
          | .down =>
            { r with
              linkState := .down, filterRun := 0, stableCountdown := .idle
              linkCountdown := .running (1000 * s.settings.timing.recycleWait) }
          | .up =>
            { r with
              linkState := .up, filterRun := 0, linkCountdown := .idle
              stableCountdown := .running (1000 * s.settings.timing.linkStableTime) }
        else { r with linkState := seen, filterRun := 0 }).post (.linkChange c seen)))
    ∧ ((s.ceiling c).active = true → (s.ceiling c).stableCountdown = .due → exec (.stableExpiry c) s =
      .next (s.updCeiling c fun r => { r with recycleCount := 0, stableCountdown := .idle }))
    ∧ ((s.ceiling c).active = false ∨ (s.ceiling c).stableCountdown ≠ .due → exec (.stableExpiry c) s = .next s)

/-- LINK_COUNTDOWN_EXPIRY come due under ACTIVE supervision of a port in ON: below the recycle limit the count rises by 1, the port enters RECYCLE with its allocation
and its place kept, and RECYCLED is posted; at or above it the port is released to LOCKOUT with cause RECYCLE_LIMIT and PORT_LOCKOUT is posted. Under IDLE supervision
or not come due it does nothing. That PORT_LOCKOUT stands before the notices of the release's run is the model's choice, log entry 11. -/
def Obligations.LinkExpiryRecyclesOrLocksOut : Prop :=
  ∀ (s : State) (c : Ceiling), s.awake →
    let p := ceilingPort c
    ((s.ceiling c).active = true → (s.ceiling c).linkCountdown = .due → (s.port p).state = .on →
      ((s.ceiling c).recycleCount < s.settings.timing.recycleLimit →
        ∃ t, exec (.linkCountdownExpiry c) s = .next t
          ∧ t.port p = { s.port p with
            state := .recycle, recyclePhase := some .offTime, lockoutCause := none, switch := .off, operation := .none
            countdown := .running (1000 * s.settings.timing.recycleOffTime)
            supervision := .unsupervised, tolerance := .idle, excursion := none }
          ∧ t.ceiling c = { s.ceiling c with
            active := false, linkCountdown := .idle, stableCountdown := .idle
            recycleCount := (s.ceiling c).recycleCount + 1 }
          ∧ s.otherPortsKept p t ∧ s.otherCeilingsKept c t ∧ s.sameHost t ∧ t.supply = s.supply ∧ t.ledger = s.ledger
          ∧ t.stack = s.stack ∧ t.queue = s.queue
          ∧ t.notices = (s.post (.recycled c ((s.ceiling c).recycleCount + 1) false)).notices)
      ∧ (s.settings.timing.recycleLimit ≤ (s.ceiling c).recycleCount →
        ∃ t u, exec (.linkCountdownExpiry c) s = .next t ∧ t = State.restoreRun u
          ∧ t.port p = { s.port p with
            state := .lockout, recyclePhase := none, lockoutCause := some .recycleLimit, switch := .off
            operation := .none, countdown := .idle, allocation := none, capped := false, currentLimit := none
            supervision := .unsupervised, tolerance := .idle, excursion := none }
          ∧ t.ceiling c = { s.ceiling c with active := false, linkCountdown := .idle, stableCountdown := .idle }
          ∧ u.notices = (s.post (.portLockout p .recycleLimit)).notices ∧ p ∉ t.ledger.commitList
          ∧ s.otherPortsKept p u ∧ u.stack = s.stack ∧ u.queue = s.queue
          ∧ u.ledger.commitList = s.ledger.commitList.filter (· != p)
          ∧ s.settledPortsKept p t ∧ s.otherCeilingsKept c t ∧ s.sameHost t ∧ t.supply = s.supply))
    ∧ ((s.ceiling c).active = false ∨ (s.ceiling c).linkCountdown ≠ .due →
      exec (.linkCountdownExpiry c) s = .next s)

/-- OFF_TIME_EXPIRY come due in OFF_TIME: the phase becomes WAIT_SLOT, a RESERVED entry with the port's priority joins at the head behind any older RESERVED ones, and
the arbiter run grants it if a slot is free and no RESERVED entry is older; the allocation is kept either way. In any other state, or not come due, it is ignored. -/
def Obligations.OffTimeExpiryWaitsForASlot : Prop :=
  ∀ (s : State) (c : Ceiling), s.awake →
    let p := ceilingPort c
    ((s.port p).state = .recycle → (s.port p).recyclePhase = some .offTime → (s.port p).countdown = .due →
      s.entryOf p = none →
      ∃ t, exec (.offTimeExpiry c) s = .next t
        ∧ t = ({ s.updPort p fun r => { r with recyclePhase := some .waitSlot, countdown := .idle } with
          queue := placeEntry ⟨p, s.priorityOf p, .reserved, s.queue.length + 1, 0⟩ s.queue } : State).arbiterRun
        ∧ (t.port p).allocation = (s.port p).allocation ∧ (t.port p).capped = (s.port p).capped
        ∧ (s.inrushCount < s.settings.timing.inrushSlots → (∀ e ∈ s.queue, e.kind ≠ .reserved) →
          (t.port p).state = .inrush ∧ (t.port p).currentLimit = (s.port p).allocation)
        ∧ (s.settings.timing.inrushSlots ≤ s.inrushCount →
          (t.port p).state = .recycle ∧ (t.port p).recyclePhase = some .waitSlot)
        ∧ s.settledPortsKept p t ∧ s.sameHost t)
    ∧ ((s.port p).state ≠ .recycle ∨ (s.port p).recyclePhase ≠ some .offTime ∨ (s.port p).countdown ≠ .due →
      exec (.offTimeExpiry c) s = .next s)

/-! ### The budget -/

/-- The allocation of a graded port, from its grade's power and its loss allowance and cap in force: the least multiple of 50 mW at or above
Pg × (1000 + L) / 1000, cut to the cap exactly when it exceeds it, which the capped flag says; for settings in their ranges it is a multiple of 50 mW from
1000 to 70 000 mW. -/
def Obligations.AllocationIsRoundedThenCapped : Prop :=
  (∀ (s : State) (p : Port) (g : Fin 7), (s.port p).grade = some g →
    s.computeAllocation p = allocationFor (s.settings.grades.get g) (s.portSettings p).loss (s.portSettings p).cap)
  ∧ ∀ power loss cap : Nat,
    (∃ r, 50 ∣ r ∧ power * (1000 + loss) ≤ 1000 * r ∧ (∀ q, 50 ∣ q → power * (1000 + loss) ≤ 1000 * q → r ≤ q)
      ∧ (cap < r → allocationFor power loss cap = (cap, true)) ∧ (r ≤ cap → allocationFor power loss cap = (r, false)))
    ∧ (1000 ≤ power → power ≤ 60000 → loss ≤ 250 → 1000 ≤ cap → cap ≤ 70000 → 50 ∣ cap →
      50 ∣ (allocationFor power loss cap).1 ∧ 1000 ≤ (allocationFor power loss cap).1
        ∧ (allocationFor power loss cap).1 ≤ 70000)

/-- The fit test by kind and priority, compared as signed numbers; with a slot free, the walk grants a RESERVED entry without a test. -/
def Obligations.FitTestByKindAndPriority : Prop :=
  ∀ (s : State) (e : QueueEntry),
    let a : Int := (s.computeAllocation e.port).1
    let room : Int := (s.ledger.available : Int) - s.committed
    (e.kind = .ordinary → e.priority ≠ 0 → (s.fits e = true ↔ a ≤ room - s.pledged - s.topReserve))
      ∧ (e.kind = .ordinary → e.priority = 0 → (s.fits e = true ↔ a ≤ room - s.pledged))
      ∧ (e.kind = .marked → ∀ pledge, (s.port e.port).mark = some pledge →
        (s.fits e = true ↔ a ≤ room - ((s.pledged : Int) - pledge)))
      ∧ (e.kind = .reserved → s.inrushCount < s.settings.timing.inrushSlots → ∀ rest level passed granted,
        walk (e :: rest) level passed granted s = walk rest level passed granted (s.grantReserved e.port))

/-- An evaluation's figures: S is the least of the window budget (0 before the first voltage), the gap cap of the supply state and the imposed cap, those that
are present; D is the slope times the excess of T over the start; A is S − D − G, or 0 when that is not above 0. -/
def Obligations.EvaluationComputesTheFigures : Prop :=
  ∀ (s : State) (cause : ShedCause),
    let t := s.evaluate cause
    let g := s.settings.supply
    let limits : List Nat :=
      [match s.supply.activeWindow with
        | none => 0
        | some w => if h : w.val = 0 then s.settings.defaultBudget else (s.settings.windows.get ⟨w.val - 1, by omega⟩).budget]
      ++ (match s.supply.state, s.supply.recoveryCap with
        | .present, _ => []
        | .gapRide, _ => [g.rideCap]
        | .gapExtended, _ => [g.extendedCap]
        | .recovery, none => []
        | .recovery, some .ride => [g.rideCap]
        | .recovery, some .extended => [g.extendedCap])
      ++ s.ledger.imposedCap.toList
    t.ledger.supplyBudget ∈ limits ∧ (∀ x ∈ limits, t.ledger.supplyBudget ≤ x)
      ∧ t.ledger.derate = g.derateSlope * (s.supply.temperature - g.derateStart).toNat
      ∧ (t.ledger.available : Int) = max 0 ((t.ledger.supplyBudget : Int) - t.ledger.derate - g.guardBand)

/-- The shed step takes candidates in shed order, priority 3, 2, 1 and the latest grant first in each, one at a time, and stops as soon as C is at or below A or
none remains; each port taken goes to SHED without its allocation, which its entry keeps. -/
def Obligations.ShedStepStopsAtTheBudget : Prop :=
  ∀ s : State, s.commitExact →
    let order : List Port := [3, 2, 1].flatMap fun k : Priority =>
      s.ledger.commitList.reverse.filter fun p => s.priorityOf p == k
    let r := shedStep s.candidates [] s
    ∃ n, r.1 = (order.take n).map (fun p => ⟨p, s.allocationOf p⟩)
      ∧ r.2.committed + ((order.take n).map s.allocationOf).sum = s.committed
      ∧ (r.2.committed ≤ s.ledger.available ∨ order.length ≤ n)
      ∧ (∀ m, m < n → m < order.length → s.ledger.available + ((order.take m).map s.allocationOf).sum < s.committed)
      ∧ (∀ p, p ∈ order.take n → (r.2.port p).state = .shed ∧ (r.2.port p).allocation = none)
      ∧ (∀ p, p ∉ order.take n → r.2.port p = s.port p)
      ∧ r.2.ledger.commitList = s.ledger.commitList.filter fun p => decide (p ∉ order.take n)

/-- A batch clears every mark, is pushed as a record with a fresh hold while fewer than 6 stand and is merged into the top record otherwise, posts SHED with its own
cause, count and total, and is reported to the gap measurement while the supply is disturbed. -/
def Obligations.BatchIsPushedOrMerged : Prop :=
  ∀ (s : State) (cause : ShedCause) (batch : List ShedEntry),
    let t := s.makeBatch cause batch
    let hold : Countdown :=
      if s.settings.supply.restoreHold = 0 then .idle else .running (1000 * s.settings.supply.restoreHold)
    (∀ p, t.port p = { s.port p with mark := none })
      ∧ (∀ e ∈ t.queue, e.kind ≠ .marked)
      ∧ (s.stack.length < 6 → t.stack = ⟨cause, false, hold, batch⟩ :: s.stack)
      ∧ (∀ top below, s.stack = top :: below → 6 ≤ s.stack.length →
        t.stack = { top with merged := true, hold := hold, entries := top.entries ++ batch } :: below)
      ∧ t.notices = (s.post (.shed cause batch.length (batch.map (·.allocation)).sum)).notices
      ∧ t.supply.measurement =
        (if s.supply.state = .present then s.supply.measurement
          else s.supply.measurement.map fun m => { m with shed := min (m.shed + batch.length) 255 })
      ∧ s.sameHost t ∧ t.ledger = s.ledger ∧ t.ceilings = s.ceilings

/-- The restore test passes exactly when a record stands on top with its hold expired and its total at or below A − C − P − Hr, signed. A passing test pops that record
alone: each listed SHED port is in SEARCH with a probe and a mark for its allocation at shed, P has risen by the total, and RESTORED is posted; a failing test
changes nothing. HOLD_EXPIRY come due on the record at depth 1 makes a restore run; below the top the record only stands expired; a hold not come due does nothing. -/
def Obligations.HoldExpiryAndTheRestoreTest : Prop :=
  (∀ s : State, s.marksPlaced → s.shedListed →
     (∀ r below, s.stack = r :: below →
       (r.hold = .idle ∧ (r.total : Int) ≤ (s.ledger.available : Int) - s.committed - s.pledged
           - s.settings.supply.restoreHysteresis →
         let t := s.restoreTest
         t.stack = below ∧ t.pledged = s.pledged + r.total ∧ t.ledger = s.ledger ∧ t.queue = s.queue
           ∧ (∀ e ∈ r.entries, (t.port e.port).state = .search ∧ (t.port e.port).operation = .probe
             ∧ (t.port e.port).mark = some e.allocation ∧ (t.port e.port).faultCount = (s.port e.port).faultCount)
           ∧ (∀ p, p ∉ r.entries.map (·.port) → t.port p = s.port p)
           ∧ t.notices = (s.post (.restored r.entries.length r.total)).notices ∧ s.sameHost t ∧ t.supply = s.supply)
       ∧ (¬ (r.hold = .idle ∧ (r.total : Int) ≤ (s.ledger.available : Int) - s.committed - s.pledged
           - s.settings.supply.restoreHysteresis) → s.restoreTest = s))
     ∧ (s.stack = [] → s.restoreTest = s))
  ∧ (∀ (s : State) (depth : Fin 6), s.awake →
     (∀ r, s.stack[depth.val]? = some r → r.hold = .due →
       let u : State := { s with stack := s.stack.set depth.val { r with hold := .idle } }
       exec (.holdExpiry depth) s = .next (if depth = 0 then u.restoreRun else u))
     ∧ ((∀ r, s.stack[depth.val]? = some r → r.hold ≠ .due) → exec (.holdExpiry depth) s = .next s))

/-- An arbiter run changes nothing when the queue is empty or the ports in INRUSH fill the slots; otherwise it walks the queue once, and a walk that granted a MARKED
entry is followed by one restore run. With a slot free the walk grants a RESERVED entry, and one that fits, which raises by 1, up to 15, the pass counts of the entries
of its level already passed and leaves the rest of the queue as it was. An entry that does not fit ends the walk when its pass count is at or above the pass limit, and
confines it to its priority level otherwise, where a lower level ends it. So an unfitting head with no slack, or with no other entry of its level behind it, leaves
everything as it was, and of two entries of one level the second is granted past the first, whose pass count rises. -/
def Obligations.ArbiterRunGrantsTheHead : Prop :=
  ∀ s : State,
    (s.queue = [] → s.arbiterRun = s)
    ∧ (s.settings.timing.inrushSlots ≤ s.inrushCount → s.arbiterRun = s)
    ∧ (let w := walk s.queue none [] false s
      s.arbiterRun = if w.2 then w.1.restoreRun else w.1)
    ∧ (∀ (e : QueueEntry) (rest : List QueueEntry) (level : Option Priority) (passed : List Port) (granted : Bool),
      (s.settings.timing.inrushSlots ≤ s.inrushCount → walk (e :: rest) level passed granted s = (s, granted))
      ∧ (s.inrushCount < s.settings.timing.inrushSlots → e.kind ≠ .reserved →
        ((∃ l, level = some l ∧ l ≠ e.priority) → walk (e :: rest) level passed granted s = (s, granted))
        ∧ ((∀ l, level = some l → l = e.priority) →
          (s.fits e = true → ∃ v : State,
            walk (e :: rest) level passed granted s = walk rest level passed (granted || decide (e.kind = .marked)) v
              ∧ v = { s.grantQueued e.port with queue := (s.grantQueued e.port).queue.map fun x =>
                if x.port ∈ passed then { x with passCount := min (x.passCount + 1) 15 } else x })
          ∧ (s.fits e = false → s.settings.timing.passLimit ≤ e.passCount →
            walk (e :: rest) level passed granted s = (s, granted))
          ∧ (s.fits e = false → e.passCount < s.settings.timing.passLimit →
            walk (e :: rest) level passed granted s = walk rest (some e.priority) (e.port :: passed) granted s))))
    ∧ (∀ e rest, s.queue = e :: rest → s.inrushCount < s.settings.timing.inrushSlots →
      (e.kind = .reserved → (s.port e.port).state = .recycle → (s.port e.port).recyclePhase = some .waitSlot →
        (s.arbiterRun.port e.port).state = .inrush
          ∧ (s.arbiterRun.port e.port).allocation = (s.port e.port).allocation)
      ∧ (e.kind ≠ .reserved → s.fits e = true → (s.port e.port).state = .queued →
        (s.arbiterRun.port e.port).state = .inrush
          ∧ (s.arbiterRun.port e.port).allocation = some (s.computeAllocation e.port).1
          ∧ (s.arbiterRun.port e.port).mark = none ∧ e.port ∈ s.arbiterRun.ledger.commitList)
      ∧ (e.kind ≠ .reserved → s.fits e = false →
        s.settings.timing.passLimit ≤ e.passCount
          ∨ (∀ x, rest.head? = some x → x.kind ≠ .reserved ∧ x.priority ≠ e.priority) → s.arbiterRun = s)
      ∧ (∀ x, rest = [x] → x.port ≠ e.port → e.kind = .ordinary → x.kind = .ordinary → x.priority = e.priority →
        s.fits e = false → e.passCount < s.settings.timing.passLimit → s.fits x = true →
        (s.port x.port).state = .queued →
        s.arbiterRun.queue =
            [{ e with
              passCount := min (e.passCount + 1) 15
              joinRank := if x.joinRank < e.joinRank then e.joinRank - 1 else e.joinRank }]
          ∧ (s.arbiterRun.port x.port).state = .inrush
          ∧ (s.arbiterRun.port x.port).allocation = some (s.computeAllocation x.port).1))

/-! ### What holds at every moment -/

/-- A step keeps at most 48 notices. -/
def Obligations.EveryStepKeepsNoticesWithinTheirPlaces : Prop :=
  ∀ s t : State, s.noticesFit → step s = .next t → t.noticesFit

/-- A step keeps every setting in its range. -/
def Obligations.EveryStepKeepsSettingsInRange : Prop :=
  ∀ s t : State, s.settings.inRange → step s = .next t → t.settings.inRange

/-- A step keeps the held S, D and A those of their inputs. -/
def Obligations.EveryStepKeepsTheFiguresCurrent : Prop :=
  ∀ s t : State, s.figuresCurrent → step s = .next t → t.figuresCurrent

/-- A step keeps the commit list exactly the ports in INRUSH, ON and RECYCLE, each once, and keeps SEAT ports out of RECYCLE. -/
def Obligations.EveryStepKeepsTheCommitList : Prop :=
  ∀ s t : State, step s = .next t →
    (s.commitExact → t.commitExact) ∧ (s.recycleOnCeiling → t.recycleOnCeiling)

/-- A step keeps Committed at or below the greater of Available and the committed priority-0 sum. -/
def Obligations.EveryStepKeepsWithinTheBudget : Prop :=
  ∀ s t : State, s.commitExact → s.heldQuiet → s.withinBudget → step s = .next t → t.withinBudget

/-- A step keeps a HELD unit quiet: every port DORMANT, the commit list, the queue and the stack empty. -/
def Obligations.EveryStepKeepsHeldQuiet : Prop :=
  ∀ s t : State, s.heldQuiet → step s = .next t → t.heldQuiet

/-- A step keeps the grant queue in the queue order with its join ranks running from 1 without a gap. -/
def Obligations.EveryStepKeepsTheQueueOrder : Prop :=
  ∀ s t : State, s.queueOrdered → step s = .next t → t.queueOrdered

/-- A step keeps one entry for each QUEUED port and each RECYCLE port in WAIT_SLOT, and none for any other, the RESERVED ones those of the RECYCLE ports; it keeps every
entry's priority its port's priority in the profile in force, and at most 4 ports in INRUSH. -/
def Obligations.EveryStepKeepsTheQueueExact : Prop :=
  ∀ s t : State, step s = .next t →
    (s.queueExact → t.queueExact) ∧ (s.heldQuiet → s.queuePriced → t.queuePriced)
      ∧ (s.settings.inRange → s.inrushBounded → t.inrushBounded)

/-- A step keeps every mark on a port in SEARCH, CLASSIFY or QUEUED. -/
def Obligations.EveryStepKeepsTheMarksPlaced : Prop :=
  ∀ s t : State, s.marksPlaced → step s = .next t → t.marksPlaced

/-- A step keeps the shed stack within 6 records, none empty, with every SHED port listed once and no other port listed, and keeps every port whose priority in force is
0 out of SHED. -/
def Obligations.EveryStepKeepsTheShedStack : Prop :=
  ∀ s t : State, step s = .next t →
    (s.commitExact → s.stackFits → s.shedListed → t.stackFits ∧ t.shedListed)
      ∧ (s.heldQuiet → s.criticalNotShed → t.criticalNotShed)

/-- State.reset is a unit whose reset has just ended, and what every step keeps holds in it. Its straps all low and its cause POWER are the model's choice, log
entries 6 and 7. -/
def Obligations.ResetMeetsTheInvariants : Prop :=
  State.reset.justReset .power Straps.allLow ∧ State.reset.noticesFit ∧ State.reset.settings.inRange
    ∧ State.reset.figuresCurrent ∧ State.reset.commitExact ∧ State.reset.withinBudget ∧ State.reset.heldQuiet
    ∧ State.reset.queueOrdered ∧ State.reset.queueExact ∧ State.reset.marksPlaced ∧ State.reset.stackFits
    ∧ State.reset.shedListed ∧ State.reset.recycleOnCeiling ∧ State.reset.queuePriced ∧ State.reset.inrushBounded
    ∧ State.reset.criticalNotShed

end
end

