-- ==== Sys2Proof/Laws/State.lean ====
section
/-! SUPPORT. What each plain update of the state leaves in each field, one lemma a field, and the reading of a port or a ceiling port after an update. -/

namespace Sys2Proof.Machine

/-! ### updPort -/

@[simp] theorem updPort_settings (s : State) (p : Port) (f : PortRecord → PortRecord) : (s.updPort p f).settings = s.settings := rfl
@[simp] theorem updPort_ceilings (s : State) (p : Port) (f : PortRecord → PortRecord) : (s.updPort p f).ceilings = s.ceilings := rfl
@[simp] theorem updPort_supply (s : State) (p : Port) (f : PortRecord → PortRecord) : (s.updPort p f).supply = s.supply := rfl
@[simp] theorem updPort_ledger (s : State) (p : Port) (f : PortRecord → PortRecord) : (s.updPort p f).ledger = s.ledger := rfl
@[simp] theorem updPort_stack (s : State) (p : Port) (f : PortRecord → PortRecord) : (s.updPort p f).stack = s.stack := rfl
@[simp] theorem updPort_queue (s : State) (p : Port) (f : PortRecord → PortRecord) : (s.updPort p f).queue = s.queue := rfl
@[simp] theorem updPort_line (s : State) (p : Port) (f : PortRecord → PortRecord) : (s.updPort p f).line = s.line := rfl
@[simp] theorem updPort_notices (s : State) (p : Port) (f : PortRecord → PortRecord) : (s.updPort p f).notices = s.notices := rfl
@[simp] theorem updPort_unit (s : State) (p : Port) (f : PortRecord → PortRecord) : (s.updPort p f).unit = s.unit := rfl
@[simp] theorem updPort_now (s : State) (p : Port) (f : PortRecord → PortRecord) : (s.updPort p f).now = s.now := rfl
@[simp] theorem updPort_free (s : State) (p : Port) (f : PortRecord → PortRecord) : (s.updPort p f).free = s.free := rfl
@[simp] theorem updPort_pending (s : State) (p : Port) (f : PortRecord → PortRecord) : (s.updPort p f).pending = s.pending := rfl

/-! ### updCeiling -/

@[simp] theorem updCeiling_settings (s : State) (c : Ceiling) (f : CeilingRecord → CeilingRecord) : (s.updCeiling c f).settings = s.settings := rfl
@[simp] theorem updCeiling_ports (s : State) (c : Ceiling) (f : CeilingRecord → CeilingRecord) : (s.updCeiling c f).ports = s.ports := rfl
@[simp] theorem updCeiling_supply (s : State) (c : Ceiling) (f : CeilingRecord → CeilingRecord) : (s.updCeiling c f).supply = s.supply := rfl
@[simp] theorem updCeiling_ledger (s : State) (c : Ceiling) (f : CeilingRecord → CeilingRecord) : (s.updCeiling c f).ledger = s.ledger := rfl
@[simp] theorem updCeiling_stack (s : State) (c : Ceiling) (f : CeilingRecord → CeilingRecord) : (s.updCeiling c f).stack = s.stack := rfl
@[simp] theorem updCeiling_queue (s : State) (c : Ceiling) (f : CeilingRecord → CeilingRecord) : (s.updCeiling c f).queue = s.queue := rfl
@[simp] theorem updCeiling_line (s : State) (c : Ceiling) (f : CeilingRecord → CeilingRecord) : (s.updCeiling c f).line = s.line := rfl
@[simp] theorem updCeiling_notices (s : State) (c : Ceiling) (f : CeilingRecord → CeilingRecord) : (s.updCeiling c f).notices = s.notices := rfl
@[simp] theorem updCeiling_unit (s : State) (c : Ceiling) (f : CeilingRecord → CeilingRecord) : (s.updCeiling c f).unit = s.unit := rfl
@[simp] theorem updCeiling_now (s : State) (c : Ceiling) (f : CeilingRecord → CeilingRecord) : (s.updCeiling c f).now = s.now := rfl
@[simp] theorem updCeiling_free (s : State) (c : Ceiling) (f : CeilingRecord → CeilingRecord) : (s.updCeiling c f).free = s.free := rfl
@[simp] theorem updCeiling_pending (s : State) (c : Ceiling) (f : CeilingRecord → CeilingRecord) : (s.updCeiling c f).pending = s.pending := rfl

/-! ### updSupply -/

@[simp] theorem updSupply_settings (s : State) (f : SupplyMonitor → SupplyMonitor) : (s.updSupply f).settings = s.settings := rfl
@[simp] theorem updSupply_ports (s : State) (f : SupplyMonitor → SupplyMonitor) : (s.updSupply f).ports = s.ports := rfl
@[simp] theorem updSupply_ceilings (s : State) (f : SupplyMonitor → SupplyMonitor) : (s.updSupply f).ceilings = s.ceilings := rfl
@[simp] theorem updSupply_ledger (s : State) (f : SupplyMonitor → SupplyMonitor) : (s.updSupply f).ledger = s.ledger := rfl
@[simp] theorem updSupply_stack (s : State) (f : SupplyMonitor → SupplyMonitor) : (s.updSupply f).stack = s.stack := rfl
@[simp] theorem updSupply_queue (s : State) (f : SupplyMonitor → SupplyMonitor) : (s.updSupply f).queue = s.queue := rfl
@[simp] theorem updSupply_line (s : State) (f : SupplyMonitor → SupplyMonitor) : (s.updSupply f).line = s.line := rfl
@[simp] theorem updSupply_notices (s : State) (f : SupplyMonitor → SupplyMonitor) : (s.updSupply f).notices = s.notices := rfl
@[simp] theorem updSupply_unit (s : State) (f : SupplyMonitor → SupplyMonitor) : (s.updSupply f).unit = s.unit := rfl
@[simp] theorem updSupply_now (s : State) (f : SupplyMonitor → SupplyMonitor) : (s.updSupply f).now = s.now := rfl
@[simp] theorem updSupply_free (s : State) (f : SupplyMonitor → SupplyMonitor) : (s.updSupply f).free = s.free := rfl
@[simp] theorem updSupply_pending (s : State) (f : SupplyMonitor → SupplyMonitor) : (s.updSupply f).pending = s.pending := rfl

@[simp] theorem updSupply_supply (s : State) (f : SupplyMonitor → SupplyMonitor) : (s.updSupply f).supply = f s.supply := rfl

/-! ### updLine -/

@[simp] theorem updLine_settings (s : State) (f : Line → Line) : (s.updLine f).settings = s.settings := rfl
@[simp] theorem updLine_ports (s : State) (f : Line → Line) : (s.updLine f).ports = s.ports := rfl
@[simp] theorem updLine_ceilings (s : State) (f : Line → Line) : (s.updLine f).ceilings = s.ceilings := rfl
@[simp] theorem updLine_supply (s : State) (f : Line → Line) : (s.updLine f).supply = s.supply := rfl
@[simp] theorem updLine_ledger (s : State) (f : Line → Line) : (s.updLine f).ledger = s.ledger := rfl
@[simp] theorem updLine_stack (s : State) (f : Line → Line) : (s.updLine f).stack = s.stack := rfl
@[simp] theorem updLine_queue (s : State) (f : Line → Line) : (s.updLine f).queue = s.queue := rfl
@[simp] theorem updLine_notices (s : State) (f : Line → Line) : (s.updLine f).notices = s.notices := rfl
@[simp] theorem updLine_unit (s : State) (f : Line → Line) : (s.updLine f).unit = s.unit := rfl
@[simp] theorem updLine_now (s : State) (f : Line → Line) : (s.updLine f).now = s.now := rfl
@[simp] theorem updLine_free (s : State) (f : Line → Line) : (s.updLine f).free = s.free := rfl
@[simp] theorem updLine_pending (s : State) (f : Line → Line) : (s.updLine f).pending = s.pending := rfl

@[simp] theorem updLine_line (s : State) (f : Line → Line) : (s.updLine f).line = f s.line := rfl

/-! ### withReply -/

@[simp] theorem withReply_settings (s : State) (k : Byte) (st : Status) (c : List Byte) : (s.withReply k st c).settings = s.settings := rfl
@[simp] theorem withReply_ports (s : State) (k : Byte) (st : Status) (c : List Byte) : (s.withReply k st c).ports = s.ports := rfl
@[simp] theorem withReply_ceilings (s : State) (k : Byte) (st : Status) (c : List Byte) : (s.withReply k st c).ceilings = s.ceilings := rfl
@[simp] theorem withReply_supply (s : State) (k : Byte) (st : Status) (c : List Byte) : (s.withReply k st c).supply = s.supply := rfl
@[simp] theorem withReply_ledger (s : State) (k : Byte) (st : Status) (c : List Byte) : (s.withReply k st c).ledger = s.ledger := rfl
@[simp] theorem withReply_stack (s : State) (k : Byte) (st : Status) (c : List Byte) : (s.withReply k st c).stack = s.stack := rfl
@[simp] theorem withReply_queue (s : State) (k : Byte) (st : Status) (c : List Byte) : (s.withReply k st c).queue = s.queue := rfl
@[simp] theorem withReply_notices (s : State) (k : Byte) (st : Status) (c : List Byte) : (s.withReply k st c).notices = s.notices := rfl
@[simp] theorem withReply_unit (s : State) (k : Byte) (st : Status) (c : List Byte) : (s.withReply k st c).unit = s.unit := rfl
@[simp] theorem withReply_now (s : State) (k : Byte) (st : Status) (c : List Byte) : (s.withReply k st c).now = s.now := rfl
@[simp] theorem withReply_free (s : State) (k : Byte) (st : Status) (c : List Byte) : (s.withReply k st c).free = s.free := rfl
@[simp] theorem withReply_pending (s : State) (k : Byte) (st : Status) (c : List Byte) : (s.withReply k st c).pending = s.pending := rfl

/-! ### hunt -/

@[simp] theorem hunt_settings (s : State) : (s.hunt).settings = s.settings := rfl
@[simp] theorem hunt_ports (s : State) : (s.hunt).ports = s.ports := rfl
@[simp] theorem hunt_ceilings (s : State) : (s.hunt).ceilings = s.ceilings := rfl
@[simp] theorem hunt_supply (s : State) : (s.hunt).supply = s.supply := rfl
@[simp] theorem hunt_ledger (s : State) : (s.hunt).ledger = s.ledger := rfl
@[simp] theorem hunt_stack (s : State) : (s.hunt).stack = s.stack := rfl
@[simp] theorem hunt_queue (s : State) : (s.hunt).queue = s.queue := rfl
@[simp] theorem hunt_notices (s : State) : (s.hunt).notices = s.notices := rfl
@[simp] theorem hunt_unit (s : State) : (s.hunt).unit = s.unit := rfl
@[simp] theorem hunt_now (s : State) : (s.hunt).now = s.now := rfl
@[simp] theorem hunt_free (s : State) : (s.hunt).free = s.free := rfl
@[simp] theorem hunt_pending (s : State) : (s.hunt).pending = s.pending := rfl

/-! ### discard -/

@[simp] theorem discard_settings (s : State) : (s.discard).settings = s.settings := rfl
@[simp] theorem discard_ports (s : State) : (s.discard).ports = s.ports := rfl
@[simp] theorem discard_ceilings (s : State) : (s.discard).ceilings = s.ceilings := rfl
@[simp] theorem discard_supply (s : State) : (s.discard).supply = s.supply := rfl
@[simp] theorem discard_ledger (s : State) : (s.discard).ledger = s.ledger := rfl
@[simp] theorem discard_stack (s : State) : (s.discard).stack = s.stack := rfl
@[simp] theorem discard_queue (s : State) : (s.discard).queue = s.queue := rfl
@[simp] theorem discard_notices (s : State) : (s.discard).notices = s.notices := rfl
@[simp] theorem discard_unit (s : State) : (s.discard).unit = s.unit := rfl
@[simp] theorem discard_now (s : State) : (s.discard).now = s.now := rfl
@[simp] theorem discard_free (s : State) : (s.discard).free = s.free := rfl
@[simp] theorem discard_pending (s : State) : (s.discard).pending = s.pending := rfl

/-! ### recompute -/

@[simp] theorem recompute_settings (s : State) : (s.recompute).settings = s.settings := rfl
@[simp] theorem recompute_ports (s : State) : (s.recompute).ports = s.ports := rfl
@[simp] theorem recompute_ceilings (s : State) : (s.recompute).ceilings = s.ceilings := rfl
@[simp] theorem recompute_supply (s : State) : (s.recompute).supply = s.supply := rfl
@[simp] theorem recompute_stack (s : State) : (s.recompute).stack = s.stack := rfl
@[simp] theorem recompute_queue (s : State) : (s.recompute).queue = s.queue := rfl
@[simp] theorem recompute_line (s : State) : (s.recompute).line = s.line := rfl
@[simp] theorem recompute_notices (s : State) : (s.recompute).notices = s.notices := rfl
@[simp] theorem recompute_unit (s : State) : (s.recompute).unit = s.unit := rfl
@[simp] theorem recompute_now (s : State) : (s.recompute).now = s.now := rfl
@[simp] theorem recompute_free (s : State) : (s.recompute).free = s.free := rfl
@[simp] theorem recompute_pending (s : State) : (s.recompute).pending = s.pending := rfl

/-! ### reportShed -/

@[simp] theorem reportShed_settings (s : State) (n : Nat) : (s.reportShed n).settings = s.settings := rfl
@[simp] theorem reportShed_ports (s : State) (n : Nat) : (s.reportShed n).ports = s.ports := rfl
@[simp] theorem reportShed_ceilings (s : State) (n : Nat) : (s.reportShed n).ceilings = s.ceilings := rfl
@[simp] theorem reportShed_ledger (s : State) (n : Nat) : (s.reportShed n).ledger = s.ledger := rfl
@[simp] theorem reportShed_stack (s : State) (n : Nat) : (s.reportShed n).stack = s.stack := rfl
@[simp] theorem reportShed_queue (s : State) (n : Nat) : (s.reportShed n).queue = s.queue := rfl
@[simp] theorem reportShed_line (s : State) (n : Nat) : (s.reportShed n).line = s.line := rfl
@[simp] theorem reportShed_notices (s : State) (n : Nat) : (s.reportShed n).notices = s.notices := rfl
@[simp] theorem reportShed_unit (s : State) (n : Nat) : (s.reportShed n).unit = s.unit := rfl
@[simp] theorem reportShed_now (s : State) (n : Nat) : (s.reportShed n).now = s.now := rfl
@[simp] theorem reportShed_free (s : State) (n : Nat) : (s.reportShed n).free = s.free := rfl
@[simp] theorem reportShed_pending (s : State) (n : Nat) : (s.reportShed n).pending = s.pending := rfl

/-! ### raisePassCounts -/

@[simp] theorem raisePassCounts_settings (s : State) (l : List Port) : (s.raisePassCounts l).settings = s.settings := rfl
@[simp] theorem raisePassCounts_ports (s : State) (l : List Port) : (s.raisePassCounts l).ports = s.ports := rfl
@[simp] theorem raisePassCounts_ceilings (s : State) (l : List Port) : (s.raisePassCounts l).ceilings = s.ceilings := rfl
@[simp] theorem raisePassCounts_supply (s : State) (l : List Port) : (s.raisePassCounts l).supply = s.supply := rfl
@[simp] theorem raisePassCounts_ledger (s : State) (l : List Port) : (s.raisePassCounts l).ledger = s.ledger := rfl
@[simp] theorem raisePassCounts_stack (s : State) (l : List Port) : (s.raisePassCounts l).stack = s.stack := rfl
@[simp] theorem raisePassCounts_line (s : State) (l : List Port) : (s.raisePassCounts l).line = s.line := rfl
@[simp] theorem raisePassCounts_notices (s : State) (l : List Port) : (s.raisePassCounts l).notices = s.notices := rfl
@[simp] theorem raisePassCounts_unit (s : State) (l : List Port) : (s.raisePassCounts l).unit = s.unit := rfl
@[simp] theorem raisePassCounts_now (s : State) (l : List Port) : (s.raisePassCounts l).now = s.now := rfl
@[simp] theorem raisePassCounts_free (s : State) (l : List Port) : (s.raisePassCounts l).free = s.free := rfl
@[simp] theorem raisePassCounts_pending (s : State) (l : List Port) : (s.raisePassCounts l).pending = s.pending := rfl

/-! ### unmarkEntries -/

@[simp] theorem unmarkEntries_settings (s : State) : (s.unmarkEntries).settings = s.settings := rfl
@[simp] theorem unmarkEntries_ports (s : State) : (s.unmarkEntries).ports = s.ports := rfl
@[simp] theorem unmarkEntries_ceilings (s : State) : (s.unmarkEntries).ceilings = s.ceilings := rfl
@[simp] theorem unmarkEntries_supply (s : State) : (s.unmarkEntries).supply = s.supply := rfl
@[simp] theorem unmarkEntries_ledger (s : State) : (s.unmarkEntries).ledger = s.ledger := rfl
@[simp] theorem unmarkEntries_stack (s : State) : (s.unmarkEntries).stack = s.stack := rfl
@[simp] theorem unmarkEntries_line (s : State) : (s.unmarkEntries).line = s.line := rfl
@[simp] theorem unmarkEntries_notices (s : State) : (s.unmarkEntries).notices = s.notices := rfl
@[simp] theorem unmarkEntries_unit (s : State) : (s.unmarkEntries).unit = s.unit := rfl
@[simp] theorem unmarkEntries_now (s : State) : (s.unmarkEntries).now = s.now := rfl
@[simp] theorem unmarkEntries_free (s : State) : (s.unmarkEntries).free = s.free := rfl
@[simp] theorem unmarkEntries_pending (s : State) : (s.unmarkEntries).pending = s.pending := rfl

/-! ### repriceEntry -/

@[simp] theorem repriceEntry_settings (s : State) (p : Port) (k : Priority) : (s.repriceEntry p k).settings = s.settings := rfl
@[simp] theorem repriceEntry_ports (s : State) (p : Port) (k : Priority) : (s.repriceEntry p k).ports = s.ports := rfl
@[simp] theorem repriceEntry_ceilings (s : State) (p : Port) (k : Priority) : (s.repriceEntry p k).ceilings = s.ceilings := rfl
@[simp] theorem repriceEntry_supply (s : State) (p : Port) (k : Priority) : (s.repriceEntry p k).supply = s.supply := rfl
@[simp] theorem repriceEntry_ledger (s : State) (p : Port) (k : Priority) : (s.repriceEntry p k).ledger = s.ledger := rfl
@[simp] theorem repriceEntry_stack (s : State) (p : Port) (k : Priority) : (s.repriceEntry p k).stack = s.stack := rfl
@[simp] theorem repriceEntry_line (s : State) (p : Port) (k : Priority) : (s.repriceEntry p k).line = s.line := rfl
@[simp] theorem repriceEntry_notices (s : State) (p : Port) (k : Priority) : (s.repriceEntry p k).notices = s.notices := rfl
@[simp] theorem repriceEntry_unit (s : State) (p : Port) (k : Priority) : (s.repriceEntry p k).unit = s.unit := rfl
@[simp] theorem repriceEntry_now (s : State) (p : Port) (k : Priority) : (s.repriceEntry p k).now = s.now := rfl
@[simp] theorem repriceEntry_free (s : State) (p : Port) (k : Priority) : (s.repriceEntry p k).free = s.free := rfl
@[simp] theorem repriceEntry_pending (s : State) (p : Port) (k : Priority) : (s.repriceEntry p k).pending = s.pending := rfl

/-! ### clearMarks -/

@[simp] theorem clearMarks_settings (s : State) : (s.clearMarks).settings = s.settings := rfl
@[simp] theorem clearMarks_ceilings (s : State) : (s.clearMarks).ceilings = s.ceilings := rfl
@[simp] theorem clearMarks_supply (s : State) : (s.clearMarks).supply = s.supply := rfl
@[simp] theorem clearMarks_ledger (s : State) : (s.clearMarks).ledger = s.ledger := rfl
@[simp] theorem clearMarks_stack (s : State) : (s.clearMarks).stack = s.stack := rfl
@[simp] theorem clearMarks_line (s : State) : (s.clearMarks).line = s.line := rfl
@[simp] theorem clearMarks_notices (s : State) : (s.clearMarks).notices = s.notices := rfl
@[simp] theorem clearMarks_unit (s : State) : (s.clearMarks).unit = s.unit := rfl
@[simp] theorem clearMarks_now (s : State) : (s.clearMarks).now = s.now := rfl
@[simp] theorem clearMarks_free (s : State) : (s.clearMarks).free = s.free := rfl
@[simp] theorem clearMarks_pending (s : State) : (s.clearMarks).pending = s.pending := rfl

/-! ### shrinkRecord -/

@[simp] theorem shrinkRecord_settings (s : State) (p : Port) : (s.shrinkRecord p).settings = s.settings := rfl
@[simp] theorem shrinkRecord_ports (s : State) (p : Port) : (s.shrinkRecord p).ports = s.ports := rfl
@[simp] theorem shrinkRecord_ceilings (s : State) (p : Port) : (s.shrinkRecord p).ceilings = s.ceilings := rfl
@[simp] theorem shrinkRecord_supply (s : State) (p : Port) : (s.shrinkRecord p).supply = s.supply := rfl
@[simp] theorem shrinkRecord_ledger (s : State) (p : Port) : (s.shrinkRecord p).ledger = s.ledger := rfl
@[simp] theorem shrinkRecord_queue (s : State) (p : Port) : (s.shrinkRecord p).queue = s.queue := rfl
@[simp] theorem shrinkRecord_line (s : State) (p : Port) : (s.shrinkRecord p).line = s.line := rfl
@[simp] theorem shrinkRecord_notices (s : State) (p : Port) : (s.shrinkRecord p).notices = s.notices := rfl
@[simp] theorem shrinkRecord_unit (s : State) (p : Port) : (s.shrinkRecord p).unit = s.unit := rfl
@[simp] theorem shrinkRecord_now (s : State) (p : Port) : (s.shrinkRecord p).now = s.now := rfl
@[simp] theorem shrinkRecord_free (s : State) (p : Port) : (s.shrinkRecord p).free = s.free := rfl
@[simp] theorem shrinkRecord_pending (s : State) (p : Port) : (s.shrinkRecord p).pending = s.pending := rfl

/-! ### enterSearch -/

@[simp] theorem enterSearch_settings (s : State) (p : Port) : (s.enterSearch p).settings = s.settings := rfl
@[simp] theorem enterSearch_ceilings (s : State) (p : Port) : (s.enterSearch p).ceilings = s.ceilings := rfl
@[simp] theorem enterSearch_supply (s : State) (p : Port) : (s.enterSearch p).supply = s.supply := rfl
@[simp] theorem enterSearch_ledger (s : State) (p : Port) : (s.enterSearch p).ledger = s.ledger := rfl
@[simp] theorem enterSearch_stack (s : State) (p : Port) : (s.enterSearch p).stack = s.stack := rfl
@[simp] theorem enterSearch_queue (s : State) (p : Port) : (s.enterSearch p).queue = s.queue := rfl
@[simp] theorem enterSearch_line (s : State) (p : Port) : (s.enterSearch p).line = s.line := rfl
@[simp] theorem enterSearch_notices (s : State) (p : Port) : (s.enterSearch p).notices = s.notices := rfl
@[simp] theorem enterSearch_unit (s : State) (p : Port) : (s.enterSearch p).unit = s.unit := rfl
@[simp] theorem enterSearch_now (s : State) (p : Port) : (s.enterSearch p).now = s.now := rfl
@[simp] theorem enterSearch_free (s : State) (p : Port) : (s.enterSearch p).free = s.free := rfl
@[simp] theorem enterSearch_pending (s : State) (p : Port) : (s.enterSearch p).pending = s.pending := rfl

/-! ### enterInrush -/

@[simp] theorem enterInrush_settings (s : State) (p : Port) : (s.enterInrush p).settings = s.settings := rfl
@[simp] theorem enterInrush_ceilings (s : State) (p : Port) : (s.enterInrush p).ceilings = s.ceilings := rfl
@[simp] theorem enterInrush_supply (s : State) (p : Port) : (s.enterInrush p).supply = s.supply := rfl
@[simp] theorem enterInrush_ledger (s : State) (p : Port) : (s.enterInrush p).ledger = s.ledger := rfl
@[simp] theorem enterInrush_stack (s : State) (p : Port) : (s.enterInrush p).stack = s.stack := rfl
@[simp] theorem enterInrush_queue (s : State) (p : Port) : (s.enterInrush p).queue = s.queue := rfl
@[simp] theorem enterInrush_line (s : State) (p : Port) : (s.enterInrush p).line = s.line := rfl
@[simp] theorem enterInrush_notices (s : State) (p : Port) : (s.enterInrush p).notices = s.notices := rfl
@[simp] theorem enterInrush_unit (s : State) (p : Port) : (s.enterInrush p).unit = s.unit := rfl
@[simp] theorem enterInrush_now (s : State) (p : Port) : (s.enterInrush p).now = s.now := rfl
@[simp] theorem enterInrush_free (s : State) (p : Port) : (s.enterInrush p).free = s.free := rfl
@[simp] theorem enterInrush_pending (s : State) (p : Port) : (s.enterInrush p).pending = s.pending := rfl

/-! ### enterClassify -/

@[simp] theorem enterClassify_settings (s : State) (p : Port) : (s.enterClassify p).settings = s.settings := rfl
@[simp] theorem enterClassify_ceilings (s : State) (p : Port) : (s.enterClassify p).ceilings = s.ceilings := rfl
@[simp] theorem enterClassify_supply (s : State) (p : Port) : (s.enterClassify p).supply = s.supply := rfl
@[simp] theorem enterClassify_ledger (s : State) (p : Port) : (s.enterClassify p).ledger = s.ledger := rfl
@[simp] theorem enterClassify_stack (s : State) (p : Port) : (s.enterClassify p).stack = s.stack := rfl
@[simp] theorem enterClassify_queue (s : State) (p : Port) : (s.enterClassify p).queue = s.queue := rfl
@[simp] theorem enterClassify_line (s : State) (p : Port) : (s.enterClassify p).line = s.line := rfl
@[simp] theorem enterClassify_notices (s : State) (p : Port) : (s.enterClassify p).notices = s.notices := rfl
@[simp] theorem enterClassify_unit (s : State) (p : Port) : (s.enterClassify p).unit = s.unit := rfl
@[simp] theorem enterClassify_now (s : State) (p : Port) : (s.enterClassify p).now = s.now := rfl
@[simp] theorem enterClassify_free (s : State) (p : Port) : (s.enterClassify p).free = s.free := rfl
@[simp] theorem enterClassify_pending (s : State) (p : Port) : (s.enterClassify p).pending = s.pending := rfl

/-! ### dropMark -/

@[simp] theorem dropMark_settings (s : State) (p : Port) : (s.dropMark p).settings = s.settings := rfl
@[simp] theorem dropMark_ceilings (s : State) (p : Port) : (s.dropMark p).ceilings = s.ceilings := rfl
@[simp] theorem dropMark_supply (s : State) (p : Port) : (s.dropMark p).supply = s.supply := rfl
@[simp] theorem dropMark_ledger (s : State) (p : Port) : (s.dropMark p).ledger = s.ledger := rfl
@[simp] theorem dropMark_stack (s : State) (p : Port) : (s.dropMark p).stack = s.stack := rfl
@[simp] theorem dropMark_queue (s : State) (p : Port) : (s.dropMark p).queue = s.queue := rfl
@[simp] theorem dropMark_line (s : State) (p : Port) : (s.dropMark p).line = s.line := rfl
@[simp] theorem dropMark_notices (s : State) (p : Port) : (s.dropMark p).notices = s.notices := rfl
@[simp] theorem dropMark_unit (s : State) (p : Port) : (s.dropMark p).unit = s.unit := rfl
@[simp] theorem dropMark_now (s : State) (p : Port) : (s.dropMark p).now = s.now := rfl
@[simp] theorem dropMark_free (s : State) (p : Port) : (s.dropMark p).free = s.free := rfl
@[simp] theorem dropMark_pending (s : State) (p : Port) : (s.dropMark p).pending = s.pending := rfl

/-! ### writeAdmin -/

@[simp] theorem writeAdmin_ports (s : State) (p : Port) (a : Bool) : (s.writeAdmin p a).ports = s.ports := rfl
@[simp] theorem writeAdmin_ceilings (s : State) (p : Port) (a : Bool) : (s.writeAdmin p a).ceilings = s.ceilings := rfl
@[simp] theorem writeAdmin_supply (s : State) (p : Port) (a : Bool) : (s.writeAdmin p a).supply = s.supply := rfl
@[simp] theorem writeAdmin_ledger (s : State) (p : Port) (a : Bool) : (s.writeAdmin p a).ledger = s.ledger := rfl
@[simp] theorem writeAdmin_stack (s : State) (p : Port) (a : Bool) : (s.writeAdmin p a).stack = s.stack := rfl
@[simp] theorem writeAdmin_queue (s : State) (p : Port) (a : Bool) : (s.writeAdmin p a).queue = s.queue := rfl
@[simp] theorem writeAdmin_line (s : State) (p : Port) (a : Bool) : (s.writeAdmin p a).line = s.line := rfl
@[simp] theorem writeAdmin_notices (s : State) (p : Port) (a : Bool) : (s.writeAdmin p a).notices = s.notices := rfl
@[simp] theorem writeAdmin_unit (s : State) (p : Port) (a : Bool) : (s.writeAdmin p a).unit = s.unit := rfl
@[simp] theorem writeAdmin_now (s : State) (p : Port) (a : Bool) : (s.writeAdmin p a).now = s.now := rfl
@[simp] theorem writeAdmin_free (s : State) (p : Port) (a : Bool) : (s.writeAdmin p a).free = s.free := rfl
@[simp] theorem writeAdmin_pending (s : State) (p : Port) (a : Bool) : (s.writeAdmin p a).pending = s.pending := rfl

/-! ### post -/

@[simp] theorem post_settings (s : State) (b : NoticeBody) : (s.post b).settings = s.settings := by unfold State.post; dsimp only; split <;> [split; skip] <;> rfl
@[simp] theorem post_ports (s : State) (b : NoticeBody) : (s.post b).ports = s.ports := by unfold State.post; dsimp only; split <;> [split; skip] <;> rfl
@[simp] theorem post_ceilings (s : State) (b : NoticeBody) : (s.post b).ceilings = s.ceilings := by unfold State.post; dsimp only; split <;> [split; skip] <;> rfl
@[simp] theorem post_supply (s : State) (b : NoticeBody) : (s.post b).supply = s.supply := by unfold State.post; dsimp only; split <;> [split; skip] <;> rfl
@[simp] theorem post_ledger (s : State) (b : NoticeBody) : (s.post b).ledger = s.ledger := by unfold State.post; dsimp only; split <;> [split; skip] <;> rfl
@[simp] theorem post_stack (s : State) (b : NoticeBody) : (s.post b).stack = s.stack := by unfold State.post; dsimp only; split <;> [split; skip] <;> rfl
@[simp] theorem post_queue (s : State) (b : NoticeBody) : (s.post b).queue = s.queue := by unfold State.post; dsimp only; split <;> [split; skip] <;> rfl
@[simp] theorem post_line (s : State) (b : NoticeBody) : (s.post b).line = s.line := by unfold State.post; dsimp only; split <;> [split; skip] <;> rfl
@[simp] theorem post_unit (s : State) (b : NoticeBody) : (s.post b).unit = s.unit := by unfold State.post; dsimp only; split <;> [split; skip] <;> rfl
@[simp] theorem post_now (s : State) (b : NoticeBody) : (s.post b).now = s.now := by unfold State.post; dsimp only; split <;> [split; skip] <;> rfl
@[simp] theorem post_free (s : State) (b : NoticeBody) : (s.post b).free = s.free := by unfold State.post; dsimp only; split <;> [split; skip] <;> rfl
@[simp] theorem post_pending (s : State) (b : NoticeBody) : (s.post b).pending = s.pending := by unfold State.post; dsimp only; split <;> [split; skip] <;> rfl

/-! ### joinQueue -/

@[simp] theorem joinQueue_settings (s : State) (p : Port) (k : EntryKind) : (s.joinQueue p k).settings = s.settings := by unfold State.joinQueue; split <;> rfl
@[simp] theorem joinQueue_ports (s : State) (p : Port) (k : EntryKind) : (s.joinQueue p k).ports = s.ports := by unfold State.joinQueue; split <;> rfl
@[simp] theorem joinQueue_ceilings (s : State) (p : Port) (k : EntryKind) : (s.joinQueue p k).ceilings = s.ceilings := by unfold State.joinQueue; split <;> rfl
@[simp] theorem joinQueue_supply (s : State) (p : Port) (k : EntryKind) : (s.joinQueue p k).supply = s.supply := by unfold State.joinQueue; split <;> rfl
@[simp] theorem joinQueue_ledger (s : State) (p : Port) (k : EntryKind) : (s.joinQueue p k).ledger = s.ledger := by unfold State.joinQueue; split <;> rfl
@[simp] theorem joinQueue_stack (s : State) (p : Port) (k : EntryKind) : (s.joinQueue p k).stack = s.stack := by unfold State.joinQueue; split <;> rfl
@[simp] theorem joinQueue_line (s : State) (p : Port) (k : EntryKind) : (s.joinQueue p k).line = s.line := by unfold State.joinQueue; split <;> rfl
@[simp] theorem joinQueue_notices (s : State) (p : Port) (k : EntryKind) : (s.joinQueue p k).notices = s.notices := by unfold State.joinQueue; split <;> rfl
@[simp] theorem joinQueue_unit (s : State) (p : Port) (k : EntryKind) : (s.joinQueue p k).unit = s.unit := by unfold State.joinQueue; split <;> rfl
@[simp] theorem joinQueue_now (s : State) (p : Port) (k : EntryKind) : (s.joinQueue p k).now = s.now := by unfold State.joinQueue; split <;> rfl
@[simp] theorem joinQueue_free (s : State) (p : Port) (k : EntryKind) : (s.joinQueue p k).free = s.free := by unfold State.joinQueue; split <;> rfl
@[simp] theorem joinQueue_pending (s : State) (p : Port) (k : EntryKind) : (s.joinQueue p k).pending = s.pending := by unfold State.joinQueue; split <;> rfl

/-! ### leaveQueue -/

@[simp] theorem leaveQueue_settings (s : State) (p : Port) : (s.leaveQueue p).settings = s.settings := by unfold State.leaveQueue; split <;> rfl
@[simp] theorem leaveQueue_ports (s : State) (p : Port) : (s.leaveQueue p).ports = s.ports := by unfold State.leaveQueue; split <;> rfl
@[simp] theorem leaveQueue_ceilings (s : State) (p : Port) : (s.leaveQueue p).ceilings = s.ceilings := by unfold State.leaveQueue; split <;> rfl
@[simp] theorem leaveQueue_supply (s : State) (p : Port) : (s.leaveQueue p).supply = s.supply := by unfold State.leaveQueue; split <;> rfl
@[simp] theorem leaveQueue_ledger (s : State) (p : Port) : (s.leaveQueue p).ledger = s.ledger := by unfold State.leaveQueue; split <;> rfl
@[simp] theorem leaveQueue_stack (s : State) (p : Port) : (s.leaveQueue p).stack = s.stack := by unfold State.leaveQueue; split <;> rfl
@[simp] theorem leaveQueue_line (s : State) (p : Port) : (s.leaveQueue p).line = s.line := by unfold State.leaveQueue; split <;> rfl
@[simp] theorem leaveQueue_notices (s : State) (p : Port) : (s.leaveQueue p).notices = s.notices := by unfold State.leaveQueue; split <;> rfl
@[simp] theorem leaveQueue_unit (s : State) (p : Port) : (s.leaveQueue p).unit = s.unit := by unfold State.leaveQueue; split <;> rfl
@[simp] theorem leaveQueue_now (s : State) (p : Port) : (s.leaveQueue p).now = s.now := by unfold State.leaveQueue; split <;> rfl
@[simp] theorem leaveQueue_free (s : State) (p : Port) : (s.leaveQueue p).free = s.free := by unfold State.leaveQueue; split <;> rfl
@[simp] theorem leaveQueue_pending (s : State) (p : Port) : (s.leaveQueue p).pending = s.pending := by unfold State.leaveQueue; split <;> rfl

/-! ### recordBatch -/

@[simp] theorem recordBatch_settings (s : State) (k : ShedCause) (b : List ShedEntry) : (s.recordBatch k b).settings = s.settings := by unfold State.recordBatch; split <;> [split; skip] <;> rfl
@[simp] theorem recordBatch_ports (s : State) (k : ShedCause) (b : List ShedEntry) : (s.recordBatch k b).ports = s.ports := by unfold State.recordBatch; split <;> [split; skip] <;> rfl
@[simp] theorem recordBatch_ceilings (s : State) (k : ShedCause) (b : List ShedEntry) : (s.recordBatch k b).ceilings = s.ceilings := by unfold State.recordBatch; split <;> [split; skip] <;> rfl
@[simp] theorem recordBatch_supply (s : State) (k : ShedCause) (b : List ShedEntry) : (s.recordBatch k b).supply = s.supply := by unfold State.recordBatch; split <;> [split; skip] <;> rfl
@[simp] theorem recordBatch_ledger (s : State) (k : ShedCause) (b : List ShedEntry) : (s.recordBatch k b).ledger = s.ledger := by unfold State.recordBatch; split <;> [split; skip] <;> rfl
@[simp] theorem recordBatch_queue (s : State) (k : ShedCause) (b : List ShedEntry) : (s.recordBatch k b).queue = s.queue := by unfold State.recordBatch; split <;> [split; skip] <;> rfl
@[simp] theorem recordBatch_line (s : State) (k : ShedCause) (b : List ShedEntry) : (s.recordBatch k b).line = s.line := by unfold State.recordBatch; split <;> [split; skip] <;> rfl
@[simp] theorem recordBatch_notices (s : State) (k : ShedCause) (b : List ShedEntry) : (s.recordBatch k b).notices = s.notices := by unfold State.recordBatch; split <;> [split; skip] <;> rfl
@[simp] theorem recordBatch_unit (s : State) (k : ShedCause) (b : List ShedEntry) : (s.recordBatch k b).unit = s.unit := by unfold State.recordBatch; split <;> [split; skip] <;> rfl
@[simp] theorem recordBatch_now (s : State) (k : ShedCause) (b : List ShedEntry) : (s.recordBatch k b).now = s.now := by unfold State.recordBatch; split <;> [split; skip] <;> rfl
@[simp] theorem recordBatch_free (s : State) (k : ShedCause) (b : List ShedEntry) : (s.recordBatch k b).free = s.free := by unfold State.recordBatch; split <;> [split; skip] <;> rfl
@[simp] theorem recordBatch_pending (s : State) (k : ShedCause) (b : List ShedEntry) : (s.recordBatch k b).pending = s.pending := by unfold State.recordBatch; split <;> [split; skip] <;> rfl

/-! ### endSupervision -/

@[simp] theorem endSupervision_settings (s : State) (p : Port) : (s.endSupervision p).settings = s.settings := by unfold State.endSupervision; dsimp only; split <;> rfl
@[simp] theorem endSupervision_supply (s : State) (p : Port) : (s.endSupervision p).supply = s.supply := by unfold State.endSupervision; dsimp only; split <;> rfl
@[simp] theorem endSupervision_ledger (s : State) (p : Port) : (s.endSupervision p).ledger = s.ledger := by unfold State.endSupervision; dsimp only; split <;> rfl
@[simp] theorem endSupervision_stack (s : State) (p : Port) : (s.endSupervision p).stack = s.stack := by unfold State.endSupervision; dsimp only; split <;> rfl
@[simp] theorem endSupervision_queue (s : State) (p : Port) : (s.endSupervision p).queue = s.queue := by unfold State.endSupervision; dsimp only; split <;> rfl
@[simp] theorem endSupervision_line (s : State) (p : Port) : (s.endSupervision p).line = s.line := by unfold State.endSupervision; dsimp only; split <;> rfl
@[simp] theorem endSupervision_notices (s : State) (p : Port) : (s.endSupervision p).notices = s.notices := by unfold State.endSupervision; dsimp only; split <;> rfl
@[simp] theorem endSupervision_unit (s : State) (p : Port) : (s.endSupervision p).unit = s.unit := by unfold State.endSupervision; dsimp only; split <;> rfl
@[simp] theorem endSupervision_now (s : State) (p : Port) : (s.endSupervision p).now = s.now := by unfold State.endSupervision; dsimp only; split <;> rfl
@[simp] theorem endSupervision_free (s : State) (p : Port) : (s.endSupervision p).free = s.free := by unfold State.endSupervision; dsimp only; split <;> rfl
@[simp] theorem endSupervision_pending (s : State) (p : Port) : (s.endSupervision p).pending = s.pending := by unfold State.endSupervision; dsimp only; split <;> rfl

/-! ### release -/

@[simp] theorem release_settings (s : State) (p : Port) : (s.release p).settings = s.settings := by simp [State.release]
@[simp] theorem release_supply (s : State) (p : Port) : (s.release p).supply = s.supply := by simp [State.release]
@[simp] theorem release_stack (s : State) (p : Port) : (s.release p).stack = s.stack := by simp [State.release]
@[simp] theorem release_queue (s : State) (p : Port) : (s.release p).queue = s.queue := by simp [State.release]
@[simp] theorem release_line (s : State) (p : Port) : (s.release p).line = s.line := by simp [State.release]
@[simp] theorem release_notices (s : State) (p : Port) : (s.release p).notices = s.notices := by simp [State.release]
@[simp] theorem release_unit (s : State) (p : Port) : (s.release p).unit = s.unit := by simp [State.release]
@[simp] theorem release_now (s : State) (p : Port) : (s.release p).now = s.now := by simp [State.release]
@[simp] theorem release_free (s : State) (p : Port) : (s.release p).free = s.free := by simp [State.release]
@[simp] theorem release_pending (s : State) (p : Port) : (s.release p).pending = s.pending := by simp [State.release]

/-! ### enterOn -/

@[simp] theorem enterOn_settings (s : State) (p : Port) : (s.enterOn p).settings = s.settings := by unfold State.enterOn; dsimp only; split <;> rfl
@[simp] theorem enterOn_supply (s : State) (p : Port) : (s.enterOn p).supply = s.supply := by unfold State.enterOn; dsimp only; split <;> rfl
@[simp] theorem enterOn_ledger (s : State) (p : Port) : (s.enterOn p).ledger = s.ledger := by unfold State.enterOn; dsimp only; split <;> rfl
@[simp] theorem enterOn_stack (s : State) (p : Port) : (s.enterOn p).stack = s.stack := by unfold State.enterOn; dsimp only; split <;> rfl
@[simp] theorem enterOn_queue (s : State) (p : Port) : (s.enterOn p).queue = s.queue := by unfold State.enterOn; dsimp only; split <;> rfl
@[simp] theorem enterOn_line (s : State) (p : Port) : (s.enterOn p).line = s.line := by unfold State.enterOn; dsimp only; split <;> rfl
@[simp] theorem enterOn_notices (s : State) (p : Port) : (s.enterOn p).notices = s.notices := by unfold State.enterOn; dsimp only; split <;> rfl
@[simp] theorem enterOn_unit (s : State) (p : Port) : (s.enterOn p).unit = s.unit := by unfold State.enterOn; dsimp only; split <;> rfl
@[simp] theorem enterOn_now (s : State) (p : Port) : (s.enterOn p).now = s.now := by unfold State.enterOn; dsimp only; split <;> rfl
@[simp] theorem enterOn_free (s : State) (p : Port) : (s.enterOn p).free = s.free := by unfold State.enterOn; dsimp only; split <;> rfl
@[simp] theorem enterOn_pending (s : State) (p : Port) : (s.enterOn p).pending = s.pending := by unfold State.enterOn; dsimp only; split <;> rfl

/-! ### Reading a port and a ceiling port -/

@[simp] theorem port_updPort_self (s : State) (p : Port) (f : PortRecord → PortRecord) :
    (s.updPort p f).port p = f (s.port p) := by
  simp [State.port, State.updPort, Vector.get_eq_getElem]

theorem port_updPort_ne (s : State) {p q : Port} (f : PortRecord → PortRecord) (h : q ≠ p) :
    (s.updPort p f).port q = s.port q := by
  have : p.val ≠ q.val := fun e => h (Fin.ext e.symm)
  simp [State.port, State.updPort, Vector.get_eq_getElem, this]

/-- A port's record after a change of one port's record. -/
theorem port_updPort (s : State) (p q : Port) (f : PortRecord → PortRecord) :
    (s.updPort p f).port q = if q = p then f (s.port p) else s.port q := by
  split
  · next h => subst h; simp
  · next h => exact port_updPort_ne s f h

@[simp] theorem ceiling_updCeiling_self (s : State) (c : Ceiling) (f : CeilingRecord → CeilingRecord) :
    (s.updCeiling c f).ceiling c = f (s.ceiling c) := by
  simp [State.ceiling, State.updCeiling, Vector.get_eq_getElem]

theorem ceiling_updCeiling_ne (s : State) {c d : Ceiling} (f : CeilingRecord → CeilingRecord) (h : d ≠ c) :
    (s.updCeiling c f).ceiling d = s.ceiling d := by
  have : c.val ≠ d.val := fun e => h (Fin.ext e.symm)
  simp [State.ceiling, State.updCeiling, Vector.get_eq_getElem, this]

/-- A ceiling port's record after a change of one ceiling port's record. -/
theorem ceiling_updCeiling (s : State) (c d : Ceiling) (f : CeilingRecord → CeilingRecord) :
    (s.updCeiling c f).ceiling d = if d = c then f (s.ceiling c) else s.ceiling d := by
  split
  · next h => subst h; simp
  · next h => exact ceiling_updCeiling_ne s f h

/-- States with the same ports read alike. -/
theorem port_congr {s t : State} (h : t.ports = s.ports) (p : Port) : t.port p = s.port p := by
  unfold State.port; rw [h]

/-- States with the same ceiling ports read alike. -/
theorem ceiling_congr {s t : State} (h : t.ceilings = s.ceilings) (c : Ceiling) : t.ceiling c = s.ceiling c := by
  unfold State.ceiling; rw [h]

/-! ### What leaves every port, and every ceiling port, alone -/

@[simp] theorem port_updCeiling (s : State) (c : Ceiling) (f : CeilingRecord → CeilingRecord) (q : Port) : (s.updCeiling c f).port q = s.port q :=
  port_congr (by simp) q
@[simp] theorem port_updSupply (s : State) (f : SupplyMonitor → SupplyMonitor) (q : Port) : (s.updSupply f).port q = s.port q :=
  port_congr (by simp) q
@[simp] theorem port_updLine (s : State) (f : Line → Line) (q : Port) : (s.updLine f).port q = s.port q :=
  port_congr (by simp) q
@[simp] theorem port_withReply (s : State) (k : Byte) (st : Status) (c : List Byte) (q : Port) : (s.withReply k st c).port q = s.port q :=
  port_congr (by simp) q
@[simp] theorem port_hunt (s : State) (q : Port) : (s.hunt).port q = s.port q :=
  port_congr (by simp) q
@[simp] theorem port_discard (s : State) (q : Port) : (s.discard).port q = s.port q :=
  port_congr (by simp) q
@[simp] theorem port_recompute (s : State) (q : Port) : (s.recompute).port q = s.port q :=
  port_congr (by simp) q
@[simp] theorem port_reportShed (s : State) (n : Nat) (q : Port) : (s.reportShed n).port q = s.port q :=
  port_congr (by simp) q
@[simp] theorem port_raisePassCounts (s : State) (l : List Port) (q : Port) : (s.raisePassCounts l).port q = s.port q :=
  port_congr (by simp) q
@[simp] theorem port_unmarkEntries (s : State) (q : Port) : (s.unmarkEntries).port q = s.port q :=
  port_congr (by simp) q
@[simp] theorem port_repriceEntry (s : State) (p : Port) (k : Priority) (q : Port) : (s.repriceEntry p k).port q = s.port q :=
  port_congr (by simp) q
@[simp] theorem port_shrinkRecord (s : State) (p : Port) (q : Port) : (s.shrinkRecord p).port q = s.port q :=
  port_congr (by simp) q
@[simp] theorem port_writeAdmin (s : State) (p : Port) (a : Bool) (q : Port) : (s.writeAdmin p a).port q = s.port q :=
  port_congr (by simp) q
@[simp] theorem port_post (s : State) (b : NoticeBody) (q : Port) : (s.post b).port q = s.port q :=
  port_congr (by simp) q
@[simp] theorem port_joinQueue (s : State) (p : Port) (k : EntryKind) (q : Port) : (s.joinQueue p k).port q = s.port q :=
  port_congr (by simp) q
@[simp] theorem port_leaveQueue (s : State) (p : Port) (q : Port) : (s.leaveQueue p).port q = s.port q :=
  port_congr (by simp) q
@[simp] theorem port_recordBatch (s : State) (k : ShedCause) (b : List ShedEntry) (q : Port) : (s.recordBatch k b).port q = s.port q :=
  port_congr (by simp) q

@[simp] theorem ceiling_updSupply (s : State) (f : SupplyMonitor → SupplyMonitor) (d : Ceiling) : (s.updSupply f).ceiling d = s.ceiling d :=
  ceiling_congr (by simp) d
@[simp] theorem ceiling_updLine (s : State) (f : Line → Line) (d : Ceiling) : (s.updLine f).ceiling d = s.ceiling d :=
  ceiling_congr (by simp) d
@[simp] theorem ceiling_withReply (s : State) (k : Byte) (st : Status) (c : List Byte) (d : Ceiling) : (s.withReply k st c).ceiling d = s.ceiling d :=
  ceiling_congr (by simp) d
@[simp] theorem ceiling_hunt (s : State) (d : Ceiling) : (s.hunt).ceiling d = s.ceiling d :=
  ceiling_congr (by simp) d
@[simp] theorem ceiling_discard (s : State) (d : Ceiling) : (s.discard).ceiling d = s.ceiling d :=
  ceiling_congr (by simp) d
@[simp] theorem ceiling_recompute (s : State) (d : Ceiling) : (s.recompute).ceiling d = s.ceiling d :=
  ceiling_congr (by simp) d
@[simp] theorem ceiling_reportShed (s : State) (n : Nat) (d : Ceiling) : (s.reportShed n).ceiling d = s.ceiling d :=
  ceiling_congr (by simp) d
@[simp] theorem ceiling_raisePassCounts (s : State) (l : List Port) (d : Ceiling) : (s.raisePassCounts l).ceiling d = s.ceiling d :=
  ceiling_congr (by simp) d
@[simp] theorem ceiling_unmarkEntries (s : State) (d : Ceiling) : (s.unmarkEntries).ceiling d = s.ceiling d :=
  ceiling_congr (by simp) d
@[simp] theorem ceiling_repriceEntry (s : State) (p : Port) (k : Priority) (d : Ceiling) : (s.repriceEntry p k).ceiling d = s.ceiling d :=
  ceiling_congr (by simp) d
@[simp] theorem ceiling_shrinkRecord (s : State) (p : Port) (d : Ceiling) : (s.shrinkRecord p).ceiling d = s.ceiling d :=
  ceiling_congr (by simp) d
@[simp] theorem ceiling_writeAdmin (s : State) (p : Port) (a : Bool) (d : Ceiling) : (s.writeAdmin p a).ceiling d = s.ceiling d :=
  ceiling_congr (by simp) d
@[simp] theorem ceiling_post (s : State) (b : NoticeBody) (d : Ceiling) : (s.post b).ceiling d = s.ceiling d :=
  ceiling_congr (by simp) d
@[simp] theorem ceiling_joinQueue (s : State) (p : Port) (k : EntryKind) (d : Ceiling) : (s.joinQueue p k).ceiling d = s.ceiling d :=
  ceiling_congr (by simp) d
@[simp] theorem ceiling_leaveQueue (s : State) (p : Port) (d : Ceiling) : (s.leaveQueue p).ceiling d = s.ceiling d :=
  ceiling_congr (by simp) d
@[simp] theorem ceiling_recordBatch (s : State) (k : ShedCause) (b : List ShedEntry) (d : Ceiling) : (s.recordBatch k b).ceiling d = s.ceiling d :=
  ceiling_congr (by simp) d
@[simp] theorem ceiling_updPort (s : State) (p : Port) (f : PortRecord → PortRecord) (d : Ceiling) : (s.updPort p f).ceiling d = s.ceiling d :=
  ceiling_congr (by simp) d
@[simp] theorem ceiling_enterSearch (s : State) (p : Port) (d : Ceiling) : (s.enterSearch p).ceiling d = s.ceiling d :=
  ceiling_congr (by simp) d
@[simp] theorem ceiling_enterInrush (s : State) (p : Port) (d : Ceiling) : (s.enterInrush p).ceiling d = s.ceiling d :=
  ceiling_congr (by simp) d
@[simp] theorem ceiling_enterClassify (s : State) (p : Port) (d : Ceiling) : (s.enterClassify p).ceiling d = s.ceiling d :=
  ceiling_congr (by simp) d
@[simp] theorem ceiling_dropMark (s : State) (p : Port) (d : Ceiling) : (s.dropMark p).ceiling d = s.ceiling d :=
  ceiling_congr (by simp) d
@[simp] theorem ceiling_clearMarks (s : State) (d : Ceiling) : (s.clearMarks).ceiling d = s.ceiling d :=
  ceiling_congr (by simp) d

/-- A countdown has expired exactly when it has come due (R1). -/
@[simp] theorem expired_iff (c : Countdown) : c.expired = true ↔ c = .due := by
  simp [Countdown.expired]

@[simp] theorem mapAll_get {α : Type} {n : Nat} (f : α → α) (v : Vector α n) (i : Fin n) :
    (mapAll f v).get i = f (v.get i) := by
  simp only [Vector.get_eq_getElem]
  unfold mapAll
  simp

end Sys2Proof.Machine
end

