-- ==== Sys2Proof/Laws/Runs.lean ====
section
/-! SUPPORT. Each run's induction said once: a property that the single grants, pops, sheds and batches keep is kept by a walk, an arbiter run, a restore run
and an evaluation (R91, R101, R102, R113 to R117). -/

namespace Sys2Proof.Machine

/-- What a property needs to be kept by every arbiter walk: it survives one grant that fits, one reserved grant, each with a slot free, and a raise of
pass counts. -/
structure KeptByGrants (P : State → Prop) : Prop where
  queued : ∀ (s : State) (e : QueueEntry), e.kind ≠ .reserved → s.fits e = true → s.inrushCount < s.settings.timing.inrushSlots → P s →
    P (s.grantQueued e.port)
  reserved : ∀ (s : State) (e : QueueEntry), e.kind = .reserved → s.inrushCount < s.settings.timing.inrushSlots → P s → P (s.grantReserved e.port)
  passes : ∀ (s : State) (l : List Port), P s → P (s.raisePassCounts l)

/-- A walk keeps what its grants keep (R114 to R117). -/
theorem walk_keeps {P : State → Prop} (h : KeptByGrants P) (q : List QueueEntry) :
    ∀ level passed granted s, P s → P (walk q level passed granted s).1 := by
  induction q with
  | nil => intro _ _ _ s hs; exact hs
  | cons e rest ih =>
    intro level passed granted s hs
    unfold walk
    split
    · exact hs
    next hslot =>
      split
      next hk => exact ih _ _ _ _ (h.reserved s e hk (Nat.lt_of_not_le hslot) hs)
      next hk =>
        split
        · exact hs
        · split
          next hf => exact ih _ _ _ _ (h.passes _ _ (h.queued s e hk hf (Nat.lt_of_not_le hslot) hs))
          · split
            · exact hs
            · exact ih _ _ _ _ hs

/-- What a property needs to be kept by every arbiter run and restore run: it survives the grants and a passing test's pop. -/
structure KeptByRuns (P : State → Prop) : Prop extends KeptByGrants P where
  pop : ∀ (s : State), s.restorePasses = true → P s → P s.popRecord

/-- The restore test keeps what a pop keeps (R132, R133). -/
theorem restoreTest_keeps {P : State → Prop} (h : KeptByRuns P) (s : State) (hs : P s) : P s.restoreTest := by
  unfold State.restoreTest
  split
  next hp => exact h.pop s hp hs
  · exact hs

/-- Arbiter runs keep what grants and pops keep (R91, R115). -/
theorem arbiterRuns_keeps {P : State → Prop} (h : KeptByRuns P) (n : Nat) :
    ∀ s, P s → P (arbiterRuns n s) := by
  induction n with
  | zero => intro s hs; exact hs
  | succ n ih =>
    intro s hs
    have hw := walk_keeps h.toKeptByGrants s.queue none [] false s hs
    unfold arbiterRuns
    dsimp only
    split
    · exact ih _ (restoreTest_keeps h _ hw)
    · exact hw

/-- An arbiter run keeps what grants and pops keep (R113). -/
theorem arbiterRun_keeps {P : State → Prop} (h : KeptByRuns P) (s : State) (hs : P s) : P s.arbiterRun :=
  arbiterRuns_keeps h _ s hs

/-- A restore run keeps what grants and pops keep (R102). -/
theorem restoreRun_keeps {P : State → Prop} (h : KeptByRuns P) (s : State) (hs : P s) : P s.restoreRun :=
  arbiterRun_keeps h _ (restoreTest_keeps h s hs)

/-- A fold keeps what each of its steps keeps. -/
theorem foldl_keeps {α β : Type} {P : β → Prop} {f : β → α → β} (hf : ∀ b a, P b → P (f b a)) (l : List α) :
    ∀ b, P b → P (l.foldl f b) := by
  induction l with
  | nil => intro b hb; exact hb
  | cons a l ih => intro b hb; exact ih _ (hf b a hb)

/-- The shed step keeps what each shed keeps (R126). -/
theorem shedStep_keeps {P : State → Prop} (hs : ∀ (s : State) (p : Port), s.ledger.available < s.committed → P s → P (s.shedPort p))
    (ps : List Port) : ∀ b s, P s → P (shedStep ps b s).2 := by
  induction ps with
  | nil => intro b s h; exact h
  | cons p ps ih =>
    intro b s h
    unfold shedStep
    split
    · exact h
    next hc => exact ih _ _ (hs s p (Nat.lt_of_not_le hc) h)

/-- What a property needs to be kept by every evaluation: it survives the figures, one shed, one batch, the grants and a pop. -/
structure KeptByEvaluation (P : State → Prop) : Prop extends KeptByRuns P where
  figures : ∀ (s : State), P s → P s.recompute
  shed : ∀ (s : State) (p : Port), s.ledger.available < s.committed → P s → P (s.shedPort p)
  batch : ∀ (s : State) (cause : ShedCause) (b : List ShedEntry), b ≠ [] → P s → P (s.makeBatch cause b)

/-- An evaluation keeps what its parts keep (R101). -/
theorem evaluate_keeps {P : State → Prop} (h : KeptByEvaluation P) (s : State) (cause : ShedCause) (hs : P s) :
    P (s.evaluate cause) := by
  apply arbiterRun_keeps h.toKeptByRuns
  have hr := h.figures s hs
  unfold State.shedOrRestore
  split
  · dsimp only
    have hst := shedStep_keeps h.shed s.recompute.candidates [] _ hr
    split
    · exact hst
    next hne => exact h.batch _ _ _ (by simpa using hne) hst
  · exact restoreTest_keeps h.toKeptByRuns _ hr

/-- The follow-up run of a change keeps what runs keep (R16, R109). -/
theorem follow_keeps {P : State → Prop} (h : KeptByRuns P) (s : State) (k : FollowUp) (hs : P s) : P (s.follow k) := by
  cases k
  · exact hs
  · exact arbiterRun_keeps h s hs
  · exact restoreRun_keeps h s hs

end Sys2Proof.Machine
end

