-- ==== Sys2Proof/Laws/Frames.lean ====
section
/-! SUPPORT. What the Sequencer, the Ledger, the Arbiter and the monitors leave alone: the settings, the management line, the Start-Up Controller, the
timebase and the queue of commands (`sameHost`), one lemma per operation. -/

namespace Sys2Proof.Machine

theorem sameHost_refl (s : State) : s.sameHost s := by simp [State.sameHost]

theorem sameHost_trans {s t u : State} (h : s.sameHost t) (k : t.sameHost u) : s.sameHost u := by
  obtain ⟨a1, a2, a3, a4, a5, a6⟩ := h
  obtain ⟨b1, b2, b3, b4, b5, b6⟩ := k
  exact ⟨b1.trans a1, b2.trans a2, b3.trans a3, b4.trans a4, b5.trans a5, b6.trans a6⟩

/-! ### The single operations -/

theorem sameHost_updPort (p : Port) (f : PortRecord → PortRecord) (s : State) : s.sameHost (s.updPort p f) := by
  simp [State.sameHost]

theorem sameHost_updCeiling (c : Ceiling) (f : CeilingRecord → CeilingRecord) (s : State) :
    s.sameHost (s.updCeiling c f) := by simp [State.sameHost]

theorem sameHost_updSupply (f : SupplyMonitor → SupplyMonitor) (s : State) : s.sameHost (s.updSupply f) := by
  simp [State.sameHost]

theorem sameHost_post (b : NoticeBody) (s : State) : s.sameHost (s.post b) := by simp [State.sameHost]

theorem sameHost_enterSearch (p : Port) (s : State) : s.sameHost (s.enterSearch p) := by simp [State.sameHost]

theorem sameHost_enterInrush (p : Port) (s : State) : s.sameHost (s.enterInrush p) := by simp [State.sameHost]

theorem sameHost_enterClassify (p : Port) (s : State) : s.sameHost (s.enterClassify p) := by simp [State.sameHost]

theorem sameHost_enterOn (p : Port) (s : State) : s.sameHost (s.enterOn p) := by simp [State.sameHost]

theorem sameHost_endSupervision (p : Port) (s : State) : s.sameHost (s.endSupervision p) := by simp [State.sameHost]

theorem sameHost_release (p : Port) (s : State) : s.sameHost (s.release p) := by simp [State.sameHost]

theorem sameHost_dropMark (p : Port) (s : State) : s.sameHost (s.dropMark p) := by simp [State.sameHost]

theorem sameHost_joinQueue (p : Port) (k : EntryKind) (s : State) : s.sameHost (s.joinQueue p k) := by simp [State.sameHost]

theorem sameHost_leaveQueue (p : Port) (s : State) : s.sameHost (s.leaveQueue p) := by simp [State.sameHost]

theorem sameHost_repriceEntry (p : Port) (k : Priority) (s : State) : s.sameHost (s.repriceEntry p k) := by
  simp [State.sameHost]

theorem sameHost_raisePassCounts (l : List Port) (s : State) : s.sameHost (s.raisePassCounts l) := by
  simp [State.sameHost]

theorem sameHost_shrinkRecord (p : Port) (s : State) : s.sameHost (s.shrinkRecord p) := by simp [State.sameHost]

theorem sameHost_recompute (s : State) : s.sameHost s.recompute := by simp [State.sameHost]

theorem sameHost_clearMarks (s : State) : s.sameHost s.clearMarks := by simp [State.sameHost]

theorem sameHost_recordBatch (k : ShedCause) (b : List ShedEntry) (s : State) : s.sameHost (s.recordBatch k b) := by
  simp [State.sameHost]

theorem sameHost_reportShed (n : Nat) (s : State) : s.sameHost (s.reportShed n) := by simp [State.sameHost]

/-! ### The shared operations -/

theorem sameHost_enterQueued (p : Port) (s : State) : s.sameHost (s.enterQueued p) := by
  unfold State.enterQueued
  exact sameHost_trans (sameHost_updPort _ _ s) (sameHost_joinQueue _ _ _)

theorem sameHost_enterFaultHold (p : Port) (c : FaultCause) (s : State) : s.sameHost (s.enterFaultHold p c) := by
  unfold State.enterFaultHold
  exact sameHost_trans (sameHost_updPort _ _ s) (sameHost_post _ _)

theorem sameHost_enterLockout (p : Port) (c : LockoutCause) (s : State) : s.sameHost (s.enterLockout p c) := by
  unfold State.enterLockout
  exact sameHost_trans (sameHost_updPort _ _ s) (sameHost_post _ _)

theorem sameHost_enterRecycle (p : Port) (s : State) : s.sameHost (s.enterRecycle p) := by
  unfold State.enterRecycle
  exact sameHost_trans (sameHost_updPort _ _ s) (sameHost_endSupervision _ _)

theorem sameHost_grantQueued (p : Port) (s : State) : s.sameHost (s.grantQueued p) := by
  unfold State.grantQueued
  dsimp only
  split <;> simp [State.sameHost]

theorem sameHost_grantReserved (p : Port) (s : State) : s.sameHost (s.grantReserved p) := by
  unfold State.grantReserved
  dsimp only
  split <;> simp [State.sameHost]

theorem sameHost_restorePort (e : ShedEntry) (s : State) : s.sameHost (s.restorePort e) := by
  unfold State.restorePort
  split <;> simp [State.sameHost]

theorem sameHost_popRecord (s : State) : s.sameHost s.popRecord := by
  unfold State.popRecord
  split
  · exact sameHost_refl s
  next r below _ =>
    refine sameHost_trans (t := r.entries.foldl State.restorePort { s with stack := below }) ?_ (sameHost_post _ _)
    exact foldl_keeps (P := fun t => s.sameHost t) (fun b a h => sameHost_trans h (sameHost_restorePort a b)) r.entries _
      (by simp [State.sameHost])

theorem sameHost_shedPort (p : Port) (s : State) : s.sameHost (s.shedPort p) := by
  unfold State.shedPort
  simp [State.sameHost]

theorem sameHost_makeBatch (k : ShedCause) (b : List ShedEntry) (s : State) : s.sameHost (s.makeBatch k b) := by
  unfold State.makeBatch
  dsimp only
  have h : s.sameHost (((s.clearMarks).recordBatch k b).post (.shed k b.length (b.map (·.allocation)).sum)) :=
    sameHost_trans (sameHost_trans (sameHost_clearMarks s) (sameHost_recordBatch _ _ _)) (sameHost_post _ _)
  split
  · exact sameHost_trans h (sameHost_reportShed _ _)
  · exact h

/-- Runs and evaluations leave the settings, the line, the Start-Up Controller, the timebase and the command queue alone. -/
theorem sameHost_kept (s : State) : KeptByEvaluation (fun t => s.sameHost t) where
  queued t _ _ _ _ h := sameHost_trans h (sameHost_grantQueued _ t)
  reserved t _ _ _ h := sameHost_trans h (sameHost_grantReserved _ t)
  passes t l h := sameHost_trans h (sameHost_raisePassCounts l t)
  pop t _ h := sameHost_trans h (sameHost_popRecord t)
  figures t h := sameHost_trans h (sameHost_recompute t)
  shed t p _ h := sameHost_trans h (sameHost_shedPort p t)
  batch t k b _ h := sameHost_trans h (sameHost_makeBatch k b t)

theorem sameHost_restoreTest (s : State) : s.sameHost s.restoreTest :=
  restoreTest_keeps (sameHost_kept s).toKeptByRuns s (sameHost_refl s)

theorem sameHost_arbiterRun (s : State) : s.sameHost s.arbiterRun :=
  arbiterRun_keeps (sameHost_kept s).toKeptByRuns s (sameHost_refl s)

theorem sameHost_restoreRun (s : State) : s.sameHost s.restoreRun :=
  restoreRun_keeps (sameHost_kept s).toKeptByRuns s (sameHost_refl s)

theorem sameHost_evaluate (k : ShedCause) (s : State) : s.sameHost (s.evaluate k) :=
  evaluate_keeps (sameHost_kept s) s k (sameHost_refl s)

theorem sameHost_follow (k : FollowUp) (s : State) : s.sameHost (s.follow k) :=
  follow_keeps (sameHost_kept s).toKeptByRuns s k (sameHost_refl s)

theorem sameHost_faultPowered (p : Port) (c : FaultCause) (s : State) : s.sameHost (s.faultPowered p c) :=
  sameHost_trans (sameHost_trans (sameHost_release p s) (sameHost_enterFaultHold p c _)) (sameHost_restoreRun _)

theorem sameHost_loseMark (p : Port) (s : State) : s.sameHost (s.loseMark p) := by
  unfold State.loseMark
  split
  · exact sameHost_trans (sameHost_dropMark p s) (sameHost_restoreRun _)
  · exact sameHost_refl s

theorem sameHost_disablePort (p : Port) (s : State) : s.sameHost (s.disablePort p).1 := by
  unfold State.disablePort
  dsimp only
  split <;> simp [State.sameHost]

theorem sameHost_enablePort (p : Port) (s : State) : s.sameHost (s.enablePort p) := by
  unfold State.enablePort
  split <;> simp [State.sameHost]

theorem sameHost_applyAdmin (p : Port) (a : Bool) (s : State) : s.sameHost (s.applyAdmin p a).1 := by
  unfold State.applyAdmin
  split
  · exact sameHost_enablePort p s
  · exact sameHost_disablePort p s

theorem sameHost_applyPriority (p : Port) (k : Priority) (s : State) : s.sameHost (s.applyPriority p k) := by
  unfold State.applyPriority
  dsimp only
  split <;> simp [State.sameHost]

theorem sameHost_switchWindow (w : WindowIndex) (fell : Bool) (s : State) : s.sameHost (s.switchWindow w fell) :=
  sameHost_trans (sameHost_updSupply _ s) (sameHost_post _ _)

theorem sameHost_windowRules (w : WindowIndex) (s : State) : s.sameHost (s.windowRules w).1 := by
  unfold State.windowRules
  split
  · exact sameHost_updSupply _ s
  · split
    · exact sameHost_updSupply _ s
    · split
      · exact sameHost_switchWindow _ _ s
      · split
        · exact sameHost_refl s
        · split
          · exact sameHost_switchWindow _ _ s
          · exact sameHost_updSupply _ s

theorem sameHost_endRecovery (s : State) : s.sameHost s.endRecovery :=
  sameHost_trans (sameHost_updSupply _ s) (sameHost_evaluate _ _)

theorem sameHost_beginGap (s : State) : s.sameHost s.beginGap := by
  unfold State.beginGap
  exact sameHost_trans (sameHost_trans (sameHost_updSupply _ s) (sameHost_post _ _)) (sameHost_evaluate _ _)

theorem sameHost_endGap (cap : CapKind) (s : State) : s.sameHost (s.endGap cap) := by
  unfold State.endGap
  dsimp only
  split
  · exact sameHost_trans (sameHost_trans (sameHost_updSupply _ s) (sameHost_post _ _)) (sameHost_endRecovery _)
  · exact sameHost_trans (sameHost_trans (sameHost_trans (sameHost_updSupply _ s) (sameHost_post _ _))
      (sameHost_updSupply _ _)) (sameHost_evaluate _ _)

theorem sameHost_lineChanged (b : Bool) (s : State) : s.sameHost (s.lineChanged b) := by
  unfold State.lineChanged
  split
  · exact sameHost_beginGap s
  · exact sameHost_beginGap s
  · exact sameHost_endGap _ s
  · exact sameHost_endGap _ s
  · exact sameHost_refl s

/-! ### The events of the blocks -/

theorem sameHost_takeVoltage (v : Nat) (s : State) : s.sameHost (s.takeVoltage v) := by
  unfold State.takeVoltage
  dsimp only
  split
  · exact sameHost_trans (sameHost_trans (sameHost_updSupply _ s) (sameHost_windowRules _ _)) (sameHost_evaluate _ _)
  · exact sameHost_trans (sameHost_updSupply _ s) (sameHost_windowRules _ _)

theorem sameHost_expireSettle (s : State) : s.sameHost s.expireSettle := by
  unfold State.expireSettle
  split
  · exact sameHost_trans (sameHost_switchWindow _ _ s) (sameHost_evaluate _ _)
  · exact sameHost_refl s

theorem sameHost_expireRideLimit (s : State) : s.sameHost s.expireRideLimit := by
  unfold State.expireRideLimit
  split
  · dsimp only
    split
    · exact sameHost_trans (sameHost_trans (sameHost_trans (sameHost_updSupply _ s) (sameHost_updSupply _ _))
        (sameHost_post _ _)) (sameHost_evaluate _ _)
    · exact sameHost_updSupply _ s
  · exact sameHost_refl s

theorem sameHost_takeLine (b : Bool) (s : State) : s.sameHost (s.takeLine b) := by
  unfold State.takeLine
  split
  · exact sameHost_updSupply _ s
  · split
    · exact sameHost_updSupply _ s
    · exact sameHost_trans (sameHost_updSupply _ s) (sameHost_lineChanged _ _)

theorem sameHost_expireRecovery (s : State) : s.sameHost s.expireRecovery := by
  unfold State.expireRecovery
  split
  · split
    · exact sameHost_endRecovery s
    · exact sameHost_updSupply _ s
  · exact sameHost_refl s

theorem sameHost_takeTemperature (t : TempSample) (s : State) : s.sameHost (s.takeTemperature t) := by
  have hbase : ∀ u : State, s.sameHost u → s.sameHost (if u.computeD = s.computeD then u else u.evaluate .derate) := by
    intro u hu
    split
    · exact hu
    · exact sameHost_trans hu (sameHost_evaluate _ _)
  unfold State.takeTemperature
  dsimp only
  apply hbase
  split
  · split
    · exact sameHost_updSupply _ s
    · exact sameHost_trans (sameHost_updSupply _ s) (sameHost_post _ _)
  · exact sameHost_updSupply _ s

theorem sameHost_takeDetection (p : Port) (d : Detection) (s : State) : s.sameHost (s.takeDetection p d) := by
  unfold State.takeDetection
  dsimp only
  split
  · split
    · exact sameHost_trans (sameHost_trans (sameHost_updPort _ _ s) (sameHost_updPort _ _ _)) (sameHost_enterClassify _ _)
    · exact sameHost_trans (sameHost_trans (sameHost_updPort _ _ s) (sameHost_updPort _ _ _)) (sameHost_loseMark _ _)
    · exact sameHost_trans (sameHost_trans (sameHost_updPort _ _ s) (sameHost_updPort _ _ _)) (sameHost_loseMark _ _)
    · refine sameHost_trans (sameHost_trans ?_ (sameHost_updPort _ _ _)) (sameHost_loseMark _ _)
      split
      · exact sameHost_updPort _ _ s
      · exact sameHost_trans (sameHost_updPort _ _ s) (sameHost_post _ _)
  · exact sameHost_refl s

theorem sameHost_expireDetection (p : Port) (s : State) : s.sameHost (s.expireDetection p) := by
  unfold State.expireDetection
  split
  · exact sameHost_updPort _ _ s
  · exact sameHost_refl s

theorem sameHost_acceptGrade (p : Port) (g : Fin 7) (s : State) : s.sameHost (s.acceptGrade p g) := by
  unfold State.acceptGrade
  dsimp only
  refine sameHost_trans (sameHost_trans ?_ (sameHost_enterQueued _ _)) (sameHost_arbiterRun _)
  split
  · exact sameHost_updPort _ _ s
  · exact sameHost_trans (sameHost_updPort _ _ s) (sameHost_post _ _)

theorem sameHost_rejectGrade (p : Port) (s : State) : s.sameHost (s.rejectGrade p) := by
  have h : s.sameHost ((s.updPort p fun r => { r with grade := none, mark := none }).enterFaultHold p .gradeInvalid) :=
    sameHost_trans (sameHost_updPort _ _ s) (sameHost_enterFaultHold _ _ _)
  unfold State.rejectGrade
  dsimp only
  split
  · exact sameHost_trans h (sameHost_restoreRun _)
  · exact h

theorem sameHost_takeGrade (p : Port) (g : Fin 8) (s : State) : s.sameHost (s.takeGrade p g) := by
  unfold State.takeGrade
  split
  · split
    · exact sameHost_acceptGrade _ _ s
    · exact sameHost_rejectGrade _ s
  · exact sameHost_refl s

theorem sameHost_expireClassify (p : Port) (s : State) : s.sameHost (s.expireClassify p) := by
  unfold State.expireClassify
  split
  · exact sameHost_enterSearch _ s
  · exact sameHost_refl s

theorem sameHost_losePowered (p : Port) (left : PortState) (s : State) : s.sameHost (s.losePowered p left) := by
  unfold State.losePowered
  exact sameHost_trans (sameHost_trans (sameHost_trans (sameHost_release _ s) (sameHost_enterSearch _ _))
    (sameHost_post _ _)) (sameHost_restoreRun _)

theorem sameHost_loseQueued (p : Port) (s : State) : s.sameHost (s.loseQueued p) := by
  unfold State.loseQueued
  exact sameHost_trans (sameHost_trans (sameHost_trans (sameHost_leaveQueue _ s) (sameHost_enterSearch _ _))
    (sameHost_post _ _)) (sameHost_arbiterRun _)

theorem sameHost_losePresence (p : Port) (s : State) : s.sameHost (s.losePresence p) := by
  unfold State.losePresence
  split
  · exact sameHost_loseQueued _ s
  · exact sameHost_losePowered _ _ s
  · exact sameHost_losePowered _ _ s
  · exact sameHost_refl s

theorem sameHost_completeRamp (p : Port) (s : State) : s.sameHost (s.completeRamp p) := by
  unfold State.completeRamp
  split
  · exact sameHost_trans (sameHost_enterOn _ s) (sameHost_arbiterRun _)
  · exact sameHost_refl s

theorem sameHost_takeShort (p : Port) (s : State) : s.sameHost (s.takeShort p) := by
  unfold State.takeShort
  split
  · exact sameHost_faultPowered _ _ s
  · exact sameHost_faultPowered _ _ s
  · exact sameHost_refl s

theorem sameHost_expireInrush (p : Port) (s : State) : s.sameHost (s.expireInrush p) := by
  unfold State.expireInrush
  split
  · exact sameHost_faultPowered _ _ s
  · exact sameHost_refl s

theorem sameHost_expireForgiveness (p : Port) (s : State) : s.sameHost (s.expireForgiveness p) := by
  unfold State.expireForgiveness
  split
  · exact sameHost_updPort _ _ s
  · exact sameHost_refl s

theorem sameHost_expireHoldoff (p : Port) (s : State) : s.sameHost (s.expireHoldoff p) := by
  unfold State.expireHoldoff
  split
  · split
    · exact sameHost_enterLockout _ _ s
    · exact sameHost_enterSearch _ s
  · exact sameHost_refl s

theorem sameHost_expireHold (d : Fin 6) (s : State) : s.sameHost (s.expireHold d) := by
  unfold State.expireHold
  split
  · exact sameHost_refl s
  · split
    · dsimp only
      split
      · exact sameHost_trans (by simp [State.sameHost]) (sameHost_restoreRun _)
      · simp [State.sameHost]
    · exact sameHost_refl s

theorem sameHost_beginExcursion (p : Port) (s : State) : s.sameHost (s.beginExcursion p) := by
  unfold State.beginExcursion
  dsimp only
  split
  · exact sameHost_updPort _ _ s
  · exact sameHost_refl s

theorem sameHost_countExcursion (p : Port) (s : State) : s.sameHost (s.countExcursion p) := by
  unfold State.countExcursion
  dsimp only
  split
  · exact sameHost_trans (sameHost_post _ s) (sameHost_updPort _ _ _)
  · exact sameHost_updPort _ _ s

theorem sameHost_endExcursion (p : Port) (s : State) : s.sameHost (s.endExcursion p) := by
  unfold State.endExcursion
  split
  · dsimp only
    refine sameHost_trans ?_ (sameHost_updPort _ _ _)
    split
    · exact sameHost_updPort _ _ s
    · exact sameHost_trans (sameHost_updPort _ _ s) (sameHost_countExcursion _ _)
  · exact sameHost_refl s

theorem sameHost_expireTolerance (p : Port) (s : State) : s.sameHost (s.expireTolerance p) := by
  unfold State.expireTolerance
  split
  · exact sameHost_updPort _ _ s
  · exact sameHost_refl s

theorem sameHost_takeOverload (p : Port) (s : State) : s.sameHost (s.takeOverload p) := by
  unfold State.takeOverload
  split
  · exact sameHost_faultPowered _ _ s
  · exact sameHost_refl s

theorem sameHost_senseLink (c : Ceiling) (l : LinkLevel) (s : State) : s.sameHost (s.senseLink c l) := by
  unfold State.senseLink
  dsimp only
  split
  · exact sameHost_trans (sameHost_updCeiling _ _ s) (sameHost_updCeiling _ _ _)
  · split
    · exact sameHost_trans (sameHost_updCeiling _ _ s) (sameHost_updCeiling _ _ _)
    · exact sameHost_trans (sameHost_trans (sameHost_updCeiling _ _ s) (sameHost_updCeiling _ _ _)) (sameHost_post _ _)

theorem sameHost_recycleAutomatically (c : Ceiling) (s : State) : s.sameHost (s.recycleAutomatically c) := by
  unfold State.recycleAutomatically
  exact sameHost_trans (sameHost_trans (sameHost_updCeiling _ _ s) (sameHost_enterRecycle _ _)) (sameHost_post _ _)

theorem sameHost_lockOutRadio (c : Ceiling) (s : State) : s.sameHost (s.lockOutRadio c) := by
  unfold State.lockOutRadio
  exact sameHost_trans (sameHost_trans (sameHost_release _ s) (sameHost_enterLockout _ _ _)) (sameHost_restoreRun _)

theorem sameHost_expireLink (c : Ceiling) (s : State) : s.sameHost (s.expireLink c) := by
  unfold State.expireLink
  split
  · dsimp only
    split
    · split
      · exact sameHost_trans (sameHost_updCeiling _ _ s) (sameHost_lockOutRadio _ _)
      · exact sameHost_trans (sameHost_updCeiling _ _ s) (sameHost_recycleAutomatically _ _)
    · exact sameHost_updCeiling _ _ s
  · exact sameHost_refl s

theorem sameHost_expireStable (c : Ceiling) (s : State) : s.sameHost (s.expireStable c) := by
  unfold State.expireStable
  split
  · exact sameHost_updCeiling _ _ s
  · exact sameHost_refl s

theorem sameHost_expireOffTime (c : Ceiling) (s : State) : s.sameHost (s.expireOffTime c) := by
  unfold State.expireOffTime
  dsimp only
  split
  · exact sameHost_trans (sameHost_trans (sameHost_updPort _ _ s) (sameHost_joinQueue _ _ _)) (sameHost_arbiterRun _)
  · exact sameHost_refl s

end Sys2Proof.Machine
end

