-- ==== Sys2Proof/Laws/Ports.lean ====
section
/-! SUPPORT. What the shared operations do to the port records, the ceiling ports, the commit list and the Supply Monitor: one lemma per operation, and what
an arbiter run and a restore run leave alone (R29, R33, R91, R102, R133). -/

namespace Sys2Proof.Machine

/-! ### The entries -/

/-- SEARCH as a port enters it (R23). -/
theorem port_enterSearch (s : State) (p q : Port) :
    (s.enterSearch p).port q =
      if q = p then
        { (s.port p).enter .search with
          switch := .off, operation := .probe, countdown := loadMs s.settings.timing.detectionInterval }
      else s.port q := port_updPort s p q _

/-- CLASSIFY as a port enters it (R26). -/
theorem port_enterClassify (s : State) (p q : Port) :
    (s.enterClassify p).port q =
      if q = p then
        { (s.port p).enter .classify with operation := .grade, countdown := loadMs Config.classificationLimit }
      else s.port q := port_updPort s p q _

/-- INRUSH as a port enters it (R29). -/
theorem port_enterInrush (s : State) (p q : Port) :
    (s.enterInrush p).port q =
      if q = p then
        { (s.port p).enter .inrush with
          currentLimit := (s.port p).allocation, switch := .ramping, countdown := loadMs s.settings.timing.inrushLimit }
      else s.port q := port_updPort s p q _

/-- A port's supervision ends (R49). -/
theorem port_endSupervision (s : State) (p q : Port) :
    (s.endSupervision p).port q =
      if q = p then { s.port p with supervision := .unsupervised, tolerance := .idle, excursion := none } else s.port q := by
  unfold State.endSupervision
  dsimp only
  split
  · exact (port_updCeiling _ _ _ q).trans (port_updPort s p q _)
  · exact port_updPort s p q _

/-- A port's record after its release (R33). -/
theorem port_release (s : State) (p q : Port) :
    (s.release p).port q =
      if q = p then
        { s.port p with
          switch := .off, currentLimit := none, allocation := none, capped := false
          supervision := .unsupervised, tolerance := .idle, excursion := none }
      else s.port q := by
  have h : (s.release p).port q = ((s.updPort p fun r =>
      { r with switch := .off, currentLimit := none, allocation := none, capped := false }).endSupervision p).port q := rfl
  rw [h, port_endSupervision, port_updPort_self]
  split
  · rfl
  · next hq => exact port_updPort_ne s _ hq

/-- The commit list after a release (R92). -/
theorem commitList_release (s : State) (p : Port) :
    (s.release p).ledger.commitList = s.ledger.commitList.filter (· != p) := by
  unfold State.release State.endSupervision
  dsimp only
  split <;> rfl

/-- A port's record after entry to ON (R32). -/
theorem port_enterOn (s : State) (p q : Port) :
    (s.enterOn p).port q =
      if q = p then
        { (s.port p).enter .on with
          switch := .on, countdown := loadSeconds s.settings.timing.forgivenessTime
          supervision := .watching, tolerance := .idle, excursion := none }
      else s.port q := by
  unfold State.enterOn
  dsimp only
  split
  · unfold State.beginLinkSupervision
    exact (port_updCeiling _ _ _ q).trans (port_updPort s p q _)
  · exact port_updPort s p q _

/-- A port's record after entry to FAULT_HOLD (R34). -/
theorem port_enterFaultHold (s : State) (p q : Port) (c : FaultCause) :
    (s.enterFaultHold p c).port q =
      if q = p then (s.port p).holdFault c s.settings.timing.faultHoldoff else s.port q := by
  unfold State.enterFaultHold
  exact (port_post _ _ q).trans (port_updPort s p q _)

/-- A port's record after entry to LOCKOUT (R35). -/
theorem port_enterLockout (s : State) (p q : Port) (c : LockoutCause) :
    (s.enterLockout p c).port q =
      if q = p then { (s.port p).enter .lockout with switch := .off, lockoutCause := some c } else s.port q := by
  unfold State.enterLockout
  exact (port_post _ _ q).trans (port_updPort s p q _)

/-- A port's record after entry to RECYCLE (R147). -/
theorem port_enterRecycle (s : State) (p q : Port) :
    (s.enterRecycle p).port q =
      if q = p then
        { (s.port p).enter .recycle with
          switch := .off, recyclePhase := some .offTime, countdown := loadSeconds s.settings.timing.recycleOffTime
          supervision := .unsupervised, tolerance := .idle, excursion := none }
      else s.port q := by
  unfold State.enterRecycle
  dsimp only
  rw [port_endSupervision, port_updPort_self]
  split
  · rfl
  · next hq => exact port_updPort_ne s _ hq

/-- Every mark goes (R127). -/
theorem port_clearMarks (s : State) (q : Port) : s.clearMarks.port q = { s.port q with mark := none } := by
  have h : s.clearMarks.port q = (mapAll (fun r : PortRecord => { r with mark := none }) s.ports).get q := rfl
  rw [h, mapAll_get]
  rfl

/-- A port's record after its shed (R126). -/
theorem port_shedPort (s : State) (p q : Port) :
    (s.shedPort p).port q =
      if q = p then
        ({ s.port p with
          switch := .off, currentLimit := none, allocation := none, capped := false
          supervision := .unsupervised, tolerance := .idle, excursion := none } : PortRecord).enter .shed
      else s.port q := by
  unfold State.shedPort
  rw [port_updPort]
  split
  · rw [port_release]; simp
  · next hq => rw [port_release]; simp [hq]

/-- A batch leaves every port but for its mark (R127). -/
theorem port_makeBatch (s : State) (cause : ShedCause) (b : List ShedEntry) (q : Port) :
    (s.makeBatch cause b).port q = { s.port q with mark := none } := by
  unfold State.makeBatch
  dsimp only
  split
  · rw [port_reportShed, port_post, port_recordBatch, port_clearMarks]
  · rw [port_post, port_recordBatch, port_clearMarks]

/-! ### Grants -/

/-- A granted QUEUED port (R29, R91). -/
theorem port_grantQueued (s : State) (p q : Port) :
    (s.grantQueued p).port q =
      if q = p ∧ (s.port p).state = .queued then
        { (s.port p).enter .inrush with
          allocation := some (s.computeAllocation p).1, capped := (s.computeAllocation p).2, mark := none
          currentLimit := some (s.computeAllocation p).1, switch := .ramping
          countdown := loadMs s.settings.timing.inrushLimit }
      else s.port q := by
  unfold State.grantQueued
  dsimp only
  rw [port_leaveQueue]
  by_cases hs : (s.port p).state = .queued
  · rw [if_pos hs, port_enterInrush, port_updPort_self]
    by_cases hq : q = p
    · subst hq
      rw [if_pos rfl, if_pos ⟨rfl, hs⟩]
      have : (({ (s.leaveQueue q) with
        ledger := { (s.leaveQueue q).ledger with commitList := (s.leaveQueue q).ledger.commitList ++ [q] } } : State).port q)
          = s.port q := port_leaveQueue s q q
      rw [this]
      simp [PortRecord.enter]
    · rw [if_neg hq, if_neg (fun h => hq h.1), port_updPort_ne _ _ hq]
      exact port_leaveQueue s p q
  · rw [if_neg hs, if_neg (fun h => hs h.2)]
    exact port_leaveQueue s p q

/-- The commit list after an ordinary or marked grant (R91). -/
theorem commitList_grantQueued (s : State) (p : Port) :
    (s.grantQueued p).ledger.commitList =
      if (s.port p).state = .queued then s.ledger.commitList ++ [p] else s.ledger.commitList := by
  unfold State.grantQueued
  dsimp only
  rw [port_leaveQueue]
  split <;> simp

/-- A port granted from WAIT_SLOT (R29, R149). -/
theorem port_grantReserved (s : State) (p q : Port) :
    (s.grantReserved p).port q =
      if q = p ∧ (s.port p).state = .recycle ∧ (s.port p).recyclePhase = some .waitSlot then
        { (s.port p).enter .inrush with
          currentLimit := (s.port p).allocation, switch := .ramping, countdown := loadMs s.settings.timing.inrushLimit }
      else s.port q := by
  unfold State.grantReserved
  dsimp only
  rw [port_leaveQueue]
  by_cases hs : (s.port p).state = .recycle ∧ (s.port p).recyclePhase = some .waitSlot
  · rw [if_pos hs, port_enterInrush]
    by_cases hq : q = p
    · subst hq
      rw [if_pos rfl, if_pos ⟨rfl, hs⟩, port_leaveQueue, leaveQueue_settings]
    · rw [if_neg hq, if_neg (fun h => hq h.1), port_leaveQueue]
  · rw [if_neg hs, if_neg (fun h => hs h.2), port_leaveQueue]

/-- The commit list after a reserved grant (R91). -/
@[simp] theorem commitList_grantReserved (s : State) (p : Port) :
    (s.grantReserved p).ledger.commitList = s.ledger.commitList := by
  unfold State.grantReserved
  dsimp only
  split <;> simp

/-! ### Pops -/

/-- A restored port (R133). -/
theorem port_restorePort (s : State) (e : ShedEntry) (q : Port) :
    (s.restorePort e).port q =
      if q = e.port ∧ (s.port e.port).state = .shed then
        { (s.port e.port).enter .search with
          switch := .off, operation := .probe, countdown := loadMs s.settings.timing.detectionInterval
          mark := some e.allocation }
      else s.port q := by
  unfold State.restorePort
  by_cases hs : (s.port e.port).state = .shed
  · rw [if_pos hs, port_updPort, port_enterSearch, port_enterSearch]
    by_cases hq : q = e.port
    · subst hq
      simp [hs]
    · rw [if_neg hq, if_neg hq, if_neg (fun h => hq h.1)]
  · rw [if_neg hs, if_neg (fun h => hs h.2)]

@[simp] theorem ledger_restorePort (s : State) (e : ShedEntry) : (s.restorePort e).ledger = s.ledger := by
  unfold State.restorePort
  split <;> simp

@[simp] theorem ledger_popRecord (s : State) : s.popRecord.ledger = s.ledger := by
  unfold State.popRecord
  split
  · rfl
  next r below _ =>
    rw [post_ledger]
    exact foldl_keeps (P := fun t : State => t.ledger = s.ledger) (fun b a h => by simp [h]) r.entries _ rfl

/-! ### What runs leave alone -/

/-- A port that is not SHED, QUEUED or RECYCLE keeps its record through arbiter runs and restore runs (R29, R38, R133). -/
theorem settled_kept (s : State) (q : Port) (hq : (s.port q).state.movable = false) :
    KeptByRuns (fun t => t.port q = s.port q) where
  queued t e _ _ _ h := by
    rw [port_grantQueued, if_neg, h]
    rintro ⟨rfl, hs⟩
    rw [h] at hs
    rw [hs] at hq
    cases hq
  reserved t e _ _ h := by
    rw [port_grantReserved, if_neg, h]
    rintro ⟨rfl, hs, _⟩
    rw [h] at hs
    rw [hs] at hq
    cases hq
  passes t l h := by
    rw [port_raisePassCounts, h]
  pop t _ h := by
    unfold State.popRecord
    split
    · exact h
    next r below _ =>
      rw [port_post]
      refine foldl_keeps (P := fun u : State => u.port q = s.port q) ?_ r.entries _ h
      intro u e hu
      rw [port_restorePort, if_neg, hu]
      rintro ⟨rfl, hs⟩
      rw [hu] at hs
      rw [hs] at hq
      cases hq

theorem port_arbiterRun (s : State) (q : Port) (hq : (s.port q).state.movable = false) :
    s.arbiterRun.port q = s.port q := arbiterRun_keeps (settled_kept s q hq) s rfl

theorem port_restoreRun (s : State) (q : Port) (hq : (s.port q).state.movable = false) :
    s.restoreRun.port q = s.port q := restoreRun_keeps (settled_kept s q hq) s rfl

/-- Runs leave the Supply Monitor, the ceiling ports and the held figures alone. -/
theorem monitors_kept (s : State) :
    KeptByRuns (fun t => t.supply = s.supply ∧ t.ceilings = s.ceilings ∧ t.ledger.available = s.ledger.available
      ∧ t.ledger.supplyBudget = s.ledger.supplyBudget ∧ t.ledger.derate = s.ledger.derate
      ∧ t.ledger.imposedCap = s.ledger.imposedCap) where
  queued t e _ _ _ h := by
    unfold State.grantQueued
    dsimp only
    split <;> simpa using h
  reserved t e _ _ h := by
    unfold State.grantReserved
    dsimp only
    split <;> simpa using h
  passes t l h := by simpa using h
  pop t _ h := by
    have hl : t.popRecord.ledger = t.ledger := ledger_popRecord t
    have hs : t.popRecord.supply = t.supply ∧ t.popRecord.ceilings = t.ceilings := by
      unfold State.popRecord
      split
      · exact ⟨rfl, rfl⟩
      next r below _ =>
        rw [post_supply, post_ceilings]
        refine foldl_keeps (P := fun u : State => u.supply = t.supply ∧ u.ceilings = t.ceilings) ?_ r.entries _ ⟨rfl, rfl⟩
        intro u e hu
        unfold State.restorePort
        split <;> simpa using hu
    rw [hl, hs.1, hs.2]
    exact h

theorem supply_restoreRun (s : State) : s.restoreRun.supply = s.supply :=
  (restoreRun_keeps (monitors_kept s) s ⟨rfl, rfl, rfl, rfl, rfl, rfl⟩).1

theorem supply_arbiterRun (s : State) : s.arbiterRun.supply = s.supply :=
  (arbiterRun_keeps (monitors_kept s) s ⟨rfl, rfl, rfl, rfl, rfl, rfl⟩).1

theorem ceilings_restoreRun (s : State) : s.restoreRun.ceilings = s.ceilings :=
  (restoreRun_keeps (monitors_kept s) s ⟨rfl, rfl, rfl, rfl, rfl, rfl⟩).2.1

theorem ceilings_arbiterRun (s : State) : s.arbiterRun.ceilings = s.ceilings :=
  (arbiterRun_keeps (monitors_kept s) s ⟨rfl, rfl, rfl, rfl, rfl, rfl⟩).2.1

theorem available_restoreRun (s : State) : s.restoreRun.ledger.available = s.ledger.available :=
  (restoreRun_keeps (monitors_kept s) s ⟨rfl, rfl, rfl, rfl, rfl, rfl⟩).2.2.1

theorem available_arbiterRun (s : State) : s.arbiterRun.ledger.available = s.ledger.available :=
  (arbiterRun_keeps (monitors_kept s) s ⟨rfl, rfl, rfl, rfl, rfl, rfl⟩).2.2.1

/-- A port that no run may move stays off, or on, the commit list (R90, R91). -/
theorem commit_kept (s : State) (q : Port) (hq : (s.port q).state.movable = false) :
    KeptByRuns (fun t => t.port q = s.port q ∧ (q ∈ t.ledger.commitList ↔ q ∈ s.ledger.commitList)) where
  queued t e hk hf hn h := by
    refine ⟨(settled_kept s q hq).queued t e hk hf hn h.1, ?_⟩
    rw [commitList_grantQueued]
    split
    next hs =>
      rw [List.mem_append, List.mem_singleton, ← h.2]
      constructor
      · rintro (hm | rfl)
        · exact hm
        · rw [h.1] at hs
          rw [hs] at hq
          cases hq
      · exact Or.inl
    · exact h.2
  reserved t e hk hn h := ⟨(settled_kept s q hq).reserved t e hk hn h.1, by rw [commitList_grantReserved]; exact h.2⟩
  passes t l h := ⟨(settled_kept s q hq).passes t l h.1, by rw [raisePassCounts_ledger]; exact h.2⟩
  pop t hp h := ⟨(settled_kept s q hq).pop t hp h.1, by rw [ledger_popRecord]; exact h.2⟩

end Sys2Proof.Machine
end

