-- ==== Sys2Proof/Laws/Line.lean ====
section
/-! SUPPORT. The management line: a posting and what it leaves (R162), how a request's command reaches its handler (R155 to R158), and the receiver's single
steps (R154). -/

namespace Sys2Proof.Machine

/-! ### Postings -/

/-- A posting with room joins the end of its class; one without sets the overflow flag (R162). -/
theorem notices_post (s : State) (b : NoticeBody) :
    (s.post b).notices =
      if s.notices.count < Config.noticePlaces then
        if b.urgent then { s.notices with urgent := s.notices.urgent ++ [⟨b, s.unitClock⟩] }
        else { s.notices with routine := s.notices.routine ++ [⟨b, s.unitClock⟩] }
      else { s.notices with overflow := true } := by
  unfold State.post
  dsimp only
  split
  · split <;> rfl
  · rfl

/-- A posting keeps the queue within its places (R162). -/
theorem noticesFit_post (s : State) (b : NoticeBody) (h : s.noticesFit) : (s.post b).noticesFit := by
  unfold State.noticesFit at *
  rw [notices_post]
  split
  next hr =>
    simp only [NoticeQueue.count, Config.noticePlaces] at *
    split <;> simp <;> omega
  · exact h

/-- A posting takes no notice away (R162). -/
theorem notices_kept_post (s : State) (b : NoticeBody) :
    s.notices.urgent <+: (s.post b).notices.urgent ∧ s.notices.routine <+: (s.post b).notices.routine := by
  rw [notices_post]
  split
  · split <;> simp
  · simp

/-! ### Addresses and kinds -/

theorem unitAddress_range (x : Straps) : 1 ≤ unitAddress x ∧ unitAddress x ≤ 31 := by
  have := x.addr.isLt
  unfold unitAddress
  split <;> omega

theorem addressOf_own_toNat (s : State) : (s.addressOf .own).toNat = unitAddress s.unit.straps := by
  have h := unitAddress_range s.unit.straps
  show (BitVec.ofNat 8 (unitAddress s.unit.straps)).toNat = _
  simp only [BitVec.toNat_ofNat]
  omega

@[simp] theorem kindOfCode_kindCode (k : RequestKind) : kindOfCode (kindCode k) = some k := by
  cases k <;> decide

/-! ### From a command to its handler -/

/-- Every request row's command is the arrival of its frame (R158). -/
theorem exec_request {i : Instr} {d : Dest} {k : RequestKind} {body : List Byte} (h : i.requestOf = some (d, k, body))
    (s : State) : exec i s = .next (s.unlessReset (·.request d k body)) := by
  cases i <;> simp [Instr.requestOf] at h <;> obtain ⟨rfl, rfl, rfl⟩ := h <;> rfl

theorem unlessReset_awake {s : State} (h : s.awake) (f : State → State) : s.unlessReset f = f s := by
  unfold State.awake at h
  simp [State.unlessReset, h]

theorem unlessReset_inReset {s : State} (h : s.unit.inReset.isSome = true) (f : State → State) : s.unlessReset f = s := by
  simp [State.unlessReset, h]

/-- A hunting receiver takes a whole frame by its check (R154, R155). -/
theorem arrive_hunting {s : State} (h : s.line.receiver = .hunting) {body : List Byte}
    (hb : body.length ≤ Config.maxBody) (addr kind : Byte) (crc : BitVec 16) :
    s.arrive addr kind body crc = s.checkFrame addr kind body crc := by
  simp [State.arrive, h, hb]

/-- A closed receiver ignores a frame (R154). -/
theorem arrive_closed {s : State} (h : s.line.receiver = .closed) (addr kind : Byte) (body : List Byte)
    (crc : BitVec 16) : s.arrive addr kind body crc = s := by
  simp [State.arrive, h]

/-- A frame with its CRC right is good (R155). -/
theorem checkFrame_good (s : State) (addr kind : Byte) (body : List Byte) :
    s.checkFrame addr kind body (crc16 (frameCore addr kind body)) = s.goodFrame addr kind body := by
  simp [State.checkFrame]

/-- A good frame to the unit's own address is taken as a request (R157). -/
theorem goodFrame_own (s : State) (kind : Byte) (body : List Byte) :
    s.goodFrame (s.addressOf .own) kind body = s.takeOwn kind body := by
  unfold State.goodFrame
  rw [if_pos (addressOf_own_toNat s)]

/-- A good broadcast is taken if its kind is capable (R157). -/
theorem goodFrame_broadcast (s : State) (k : RequestKind) (body : List Byte) :
    s.goodFrame (s.addressOf .broadcast) (kindCode k) body =
      if broadcastCapable k then s.takeBroadcast k body else s.hunt := by
  have h := unitAddress_range s.unit.straps
  have h0 : ¬ ((s.addressOf .broadcast).toNat = unitAddress s.unit.straps) := by
    show ¬ (0 = _)
    omega
  unfold State.goodFrame
  rw [if_neg h0, if_pos (show s.addressOf .broadcast = 0 from rfl), kindOfCode_kindCode]

/-- A request to a listening unit's own address: its handler's answer, with the reply (R157, R158). -/
theorem exec_request_own {i : Instr} {k : RequestKind} {body : List Byte} (h : i.requestOf = some (.own, k, body))
    {s : State} (hs : s.listening) (hb : body.length ≤ Config.maxBody) :
    exec i s = .next ((handler k body s).state.withReply (kindCode k) (handler k body s).status (handler k body s).content) := by
  rw [exec_request h, unlessReset_awake hs.1]
  show Host.Outcome.next (s.arrive (s.addressOf .own) (kindCode k) body _) = _
  rw [arrive_hunting hs.2 hb, checkFrame_good, goodFrame_own]
  simp [State.takeOwn, answerKind]

/-- A broadcast request to a listening unit (R157, R158). -/
theorem exec_request_broadcast {i : Instr} {k : RequestKind} {body : List Byte}
    (h : i.requestOf = some (.broadcast, k, body)) {s : State} (hs : s.listening) (hb : body.length ≤ Config.maxBody) :
    exec i s = .next (if broadcastCapable k then s.takeBroadcast k body else s.hunt) := by
  rw [exec_request h, unlessReset_awake hs.1]
  show Host.Outcome.next (s.arrive (s.addressOf .broadcast) (kindCode k) body _) = _
  rw [arrive_hunting hs.2 hb, checkFrame_good, goodFrame_broadcast]

/-! ### The receiver's single steps -/

/-- A byte to a hunting receiver (R154). -/
theorem takeByte_hunting {s : State} (h : s.line.receiver = .hunting) (b : Byte) (fe : Bool) :
    s.takeByte b fe =
      if b = syncByte ∧ fe = false then
        s.updLine fun l => { l with receiver := .collecting, buffer := [], byteGap := loadMs Config.byteGap }
      else s := by
  simp [State.takeByte, h]

/-- A byte to a collecting receiver (R154). -/
theorem takeByte_collecting {s : State} (h : s.line.receiver = .collecting) (b : Byte) (fe : Bool) :
    s.takeByte b fe =
      if fe then s.discard
      else (s.updLine fun l => { l with buffer := l.buffer ++ [b], byteGap := loadMs Config.byteGap }).examine := by
  simp [State.takeByte, h]

/-- A byte to a closed receiver (R154). -/
theorem takeByte_closed {s : State} (h : s.line.receiver = .closed) (b : Byte) (fe : Bool) : s.takeByte b fe = s := by
  simp [State.takeByte, h]

/-- The line after a discard (R154, R156). -/
theorem line_discard (s : State) :
    s.discard.line =
      { s.line with
        receiver := .hunting, buffer := [], byteGap := .idle, errorCount := min (s.line.errorCount + 1) 65535 } := rfl

/-- The line after a return to hunting (R154). -/
theorem line_hunt (s : State) :
    s.hunt.line = { s.line with receiver := .hunting, buffer := [], byteGap := .idle } := rfl

/-- The receiver's return to hunting is the state the statements name (R154). -/
theorem hunt_eq_hunting (s : State) : s.hunt = s.hunting := rfl

end Sys2Proof.Machine
end

