-- ==== Sys2Proof/Laws/Queue.lean ====
section
/-! SUPPORT. The grant queue's operations as lists: what they hold, and whose entries. -/

namespace Sys2Proof.Machine

/-- Placing an entry adds it and moves none. -/
theorem placeEntry_perm (e : QueueEntry) (q : List QueueEntry) : (placeEntry e q).Perm (e :: q) := by
  induction q with
  | nil => exact .refl _
  | cons x xs ih =>
    unfold placeEntry
    split
    · exact .refl _
    · exact (ih.cons x).trans (.swap e x xs)

/-- Reordering keeps the entries. -/
theorem reorder_perm (q : List QueueEntry) : (reorder q).Perm q := by
  induction q with
  | nil => exact .refl _
  | cons x xs ih => exact (placeEntry_perm x (reorder xs)).trans (ih.cons x)

/-- The entries after one is placed. -/
@[simp] theorem mem_placeEntry (e x : QueueEntry) (q : List QueueEntry) : x ∈ placeEntry e q ↔ x = e ∨ x ∈ q := by
  rw [(placeEntry_perm e q).mem_iff, List.mem_cons]

@[simp] theorem length_placeEntry (e : QueueEntry) (q : List QueueEntry) : (placeEntry e q).length = q.length + 1 :=
  (placeEntry_perm e q).length_eq

@[simp] theorem mem_reorder (x : QueueEntry) (q : List QueueEntry) : x ∈ reorder q ↔ x ∈ q := (reorder_perm q).mem_iff

@[simp] theorem length_reorder (q : List QueueEntry) : (reorder q).length = q.length := (reorder_perm q).length_eq

/-- A port holds no entry exactly when none of the entries is its own. -/
theorem entryOf_eq_none {s : State} {p : Port} : s.entryOf p = none ↔ p ∉ s.queue.map (·.port) := by
  simp only [State.entryOf, List.find?_eq_none, beq_iff_eq, List.mem_map, not_exists, not_and]

/-- The entry a port holds is in the queue and is its own. -/
theorem entryOf_eq_some {s : State} {p : Port} {e : QueueEntry} (h : s.entryOf p = some e) : e ∈ s.queue ∧ e.port = p :=
  ⟨List.mem_of_find?_eq_some h, by simpa using List.find?_some h⟩

/-- Whose entries stand after a port has left. -/
theorem ports_leaveQueue (s : State) (p : Port) :
    (s.leaveQueue p).queue.map (·.port) = (s.queue.map (·.port)).filter (· != p) := by
  unfold State.leaveQueue
  split
  · rename_i h
    rw [entryOf_eq_none] at h
    symm
    rw [List.filter_eq_self]
    intro q hq
    simp only [bne_iff_ne, ne_eq]
    rintro rfl
    exact h hq
  · rw [List.map_map, List.filter_map]
    refine List.map_congr_left fun x _ => ?_
    simp only [Function.comp]
    split <;> rfl

/-- Whose entries stand after a port without one has joined. -/
theorem ports_joinQueue (s : State) (p : Port) (k : EntryKind) (h : s.entryOf p = none) :
    ((s.joinQueue p k).queue.map (·.port)).Perm (p :: s.queue.map (·.port)) := by
  simp only [State.joinQueue, h, Option.isSome_none, Bool.false_eq_true, if_false]
  exact (placeEntry_perm _ _).map _

/-- A change in place and a change of kind keep whose entries stand. -/
theorem ports_repriceEntry (s : State) (p : Port) (k : Priority) :
    ((s.repriceEntry p k).queue.map (·.port)).Perm (s.queue.map (·.port)) := by
  refine ((reorder_perm _).map _).trans (.of_eq ?_)
  rw [List.map_map]
  refine List.map_congr_left fun x _ => ?_
  simp only [Function.comp]
  split <;> rfl

@[inherit_doc ports_repriceEntry] theorem ports_unmarkEntries (s : State) :
    (s.unmarkEntries.queue.map (·.port)).Perm (s.queue.map (·.port)) := by
  refine ((reorder_perm _).map _).trans (.of_eq ?_)
  rw [List.map_map]
  refine List.map_congr_left fun x _ => ?_
  simp only [Function.comp]
  split <;> rfl

/-- Raising pass counts moves no entry. -/
theorem ports_raisePassCounts (s : State) (l : List Port) :
    (s.raisePassCounts l).queue.map (·.port) = s.queue.map (·.port) := by
  simp only [State.raisePassCounts, List.map_map]
  refine List.map_congr_left fun x _ => ?_
  simp only [Function.comp]
  split <;> rfl

/-- No entry stands ahead of itself. -/
theorem ahead_irrefl (a : QueueEntry) : a.ahead a = false := by
  cases h : a.kind <;> simp [QueueEntry.ahead, h]

/-- The queue order in one line: RESERVED first by join order; then by priority, MARKED before ORDINARY, then join order (R107). -/
theorem ahead_iff (a b : QueueEntry) :
    a.ahead b = true ↔
      (a.kind = .reserved ∧ (b.kind = .reserved → a.joinRank < b.joinRank))
        ∨ (a.kind ≠ .reserved ∧ b.kind ≠ .reserved
          ∧ (a.priority.val < b.priority.val
            ∨ (a.priority.val = b.priority.val
              ∧ ((a.kind = .marked ∧ b.kind = .ordinary) ∨ (a.kind = b.kind ∧ a.joinRank < b.joinRank))))) := by
  rcases lt_trichotomy a.priority.val b.priority.val with hp | hp | hp
  · have hne : a.priority ≠ b.priority := fun h => by simp [h] at hp
    have hlt : a.priority < b.priority := hp
    cases ha : a.kind <;> cases hb : b.kind <;> simp [QueueEntry.ahead, ha, hb, hne, hlt]
  · have heq : a.priority = b.priority := Fin.ext hp
    cases ha : a.kind <;> cases hb : b.kind <;> simp [QueueEntry.ahead, ha, hb, heq]
  · have hne : a.priority ≠ b.priority := fun h => by simp [h] at hp
    have hlt : ¬ a.priority < b.priority := not_lt_of_gt hp
    have hv : ¬ a.priority.val = b.priority.val := hp.ne'
    cases ha : a.kind <;> cases hb : b.kind <;> simp [QueueEntry.ahead, ha, hb, hne, hlt, hv]

/-- Of two entries with different join ranks one stands ahead of the other. -/
theorem ahead_total {a b : QueueEntry} (h : a.joinRank ≠ b.joinRank) (hab : a.ahead b = false) : b.ahead a = true := by
  rw [← Bool.not_eq_true, ahead_iff] at hab
  rw [ahead_iff]
  generalize a.priority.val = x at *
  generalize b.priority.val = y at *
  cases ha : a.kind <;> cases hb : b.kind <;> simp [ha, hb] at hab ⊢ <;> omega

/-- The queue order is transitive. -/
theorem ahead_trans {a b c : QueueEntry} (hab : a.ahead b = true) (hbc : b.ahead c = true) : a.ahead c = true := by
  rw [ahead_iff] at *
  generalize a.priority.val = x at *
  generalize b.priority.val = y at *
  generalize c.priority.val = z at *
  cases ha : a.kind <;> cases hb : b.kind <;> cases hc : c.kind <;> simp [ha, hb, hc] at hab hbc ⊢ <;> omega

end Sys2Proof.Machine
end

