-- ==== Sys2Proof/Laws/Step.lean ====
section
/-! SUPPORT. What a step can be, once, and what is kept by commands and ticks is kept by steps. -/

namespace Sys2Proof.Machine

/-- What a due countdown adds to the due events. -/
@[simp] theorem mem_whenDue {d : Countdown} {c i : Instr} : c ∈ whenDue d i ↔ d = .due ∧ c = i := by
  unfold whenDue
  split <;> simp_all

/-- A step that answers a next state: the front command, nothing in a reset, a tick, or one due event. -/
theorem step_cases {s t : State} (h : step s = .next t) :
    (∃ c rest, s.pending = c :: rest ∧ exec c { s with pending := rest } = .next t)
      ∨ (s.pending = [] ∧ s.unit.inReset.isSome = true ∧ t = s)
      ∨ (s.pending = [] ∧ s.awake ∧ dueEvents s = [] ∧ t = s.tick)
      ∨ (s.pending = [] ∧ s.awake ∧ ∃ c ∈ dueEvents s, exec c { s with free := s.free + 1 } = .next t) := by
  unfold step at h
  split at h
  · rename_i hp
    unfold State.ownStep at h
    split at h
    · exact .inr (.inl ⟨hp, by assumption, by cases h; rfl⟩)
    · have ha : s.awake := by simpa [State.awake] using ‹¬ s.unit.inReset.isSome = true›
      split at h
      · exact .inr (.inr (.inl ⟨hp, ha, by assumption, by cases h; rfl⟩))
      · rename_i c rest hd
        refine .inr (.inr (.inr ⟨hp, ha, _, ?_, h⟩))
        rw [hd]
        have hlt : Config.eventChoice s.free % (rest.length + 1) < (c :: rest).length := by
          simpa using Nat.mod_lt _ (Nat.succ_pos rest.length)
        rw [List.getD_eq_getElem _ _ hlt]
        exact List.getElem_mem hlt
  · rename_i c rest hp
    exact .inl ⟨c, rest, hp, h⟩

/-- What every command and every tick keeps, and what does not speak of the queue of commands or the free values, every step keeps. -/
theorem step_keeps {P : State → Prop} (hq : ∀ s pending free, P s → P { s with pending := pending, free := free })
    (ht : ∀ s, P s → P s.tick) (he : ∀ c s t, P s → exec c s = .next t → P t) {s t : State} (hs : P s)
    (h : step s = .next t) : P t := by
  obtain ⟨c, rest, -, h⟩ | ⟨-, -, rfl⟩ | ⟨-, -, -, rfl⟩ | ⟨-, -, c, -, h⟩ := step_cases h
  · exact he _ _ _ (hq s rest s.free hs) h
  · exact hs
  · exact ht _ hs
  · exact he _ _ _ (hq s s.pending (s.free + 1) hs) h

/-- A port's record one tick on. -/
theorem port_tick (s : State) (p : Port) : s.tick.port p = (s.port p).tick := by
  simp [State.tick, State.port, mapAll, Vector.get_eq_getElem]

/-- A ceiling port's link record one tick on. -/
theorem ceiling_tick (s : State) (c : Ceiling) : s.tick.ceiling c = (s.ceiling c).tick := by
  simp [State.tick, State.ceiling, mapAll, Vector.get_eq_getElem]

end Sys2Proof.Machine
end

