-- ==== Sys2Proof/WellFormed.lean ====
section
/-! DEFINITION. Which commands the part's surroundings can send as what they are named. `exec` has a meaning for the others too, which follows the
frame or value they carry (log entry 22). -/

namespace Sys2Proof

/-- The length of the request body a command carries, 0 for a command without one. -/
def Instr.bodyLength : Instr → Nat
  | .identify _ b | .commission _ b | .restart _ b | .setPort _ b | .setGrades _ b | .setTiming _ b | .setSupply _ b
  | .setWindow _ b | .selectProfile _ b | .shedTo _ b | .readPort _ b | .readLedger _ b | .readQueue _ b
  | .readStack _ b | .readGap _ b | .takeNotices _ b => b.length
  | .enable _ _ x | .disable _ _ x | .clear _ _ x | .recycle _ _ x => x.length + 2
  | .unknownKindRequest _ b | .crcMismatch _ _ b _ | .goodFrameIgnored _ _ b => b.length
  | _ => 0

/-- A body fits its frame's length byte (section 9.2: 0 to 200 bytes). -/
def Instr.bodyFits (i : Instr) : Bool := i.bodyLength ≤ Config.maxBody

/-- A command that names a kind of frame by what is wrong with it carries such a frame: an unknown kind is unknown, a mismatching CRC
mismatches, and an ignored broadcast is not of a broadcast-capable kind (R155, R157, R158). -/
def Instr.frameAsNamed : Instr → Bool
  | .unknownKindRequest kind _ => (Machine.kindOfCode kind).isNone
  | .crcMismatch addr kind body crc => crc != Machine.crc16 (Machine.frameCore addr kind body)
  | .goodFrameIgnored addr kind _ =>
    addr != 0 || ((Machine.kindOfCode kind).map Machine.broadcastCapable).getD false == false
  | _ => true

/-- A temperature reading fits the signed 24-bit field of its notice (section 11.4). -/
def Instr.readingFits : Instr → Bool
  | .temperatureSample (.reading v) => decide (-8388608 ≤ v ∧ v < 8388608)
  | _ => true

/-- The well-formed commands. -/
def Instr.wellFormed (i : Instr) : Bool := i.bodyFits && i.frameAsNamed && i.readingFits

end Sys2Proof
end

