-- ==== Sys2Proof/Tests/Slice0.lean ====
section
/-! SUPPORT. Tests of single commands against values worked out by hand from the spec, a refused term for each check of WellFormed, and for each statement
with hypotheses a state and operands that meet them, at the boundary values of its clauses. -/

namespace Sys2Proof.Tests

set_option Elab.async false

open Sys2Proof Sys2Proof.Machine

/-! ### Helpers -/

/-- The state a command leaves. -/
def after (c : Instr) (s : State) : State :=
  match exec c s with
  | .next t => t
  | _ => s

/-- A port record in a state, with everything else as reset leaves it. -/
def portIn (st : PortState) : PortRecord := { PortRecord.atReset with state := st }

/-- A RUNNING unit with the reset values. -/
def running : State := { State.reset with unit := { State.reset.unit with unitState := .running } }

/-- A RUNNING unit with one port's record given. -/
def withPort (p : Port) (r : PortRecord) : State := running.updPort p fun _ => r

/-- A RUNNING unit with one ceiling port's link record given. -/
def withCeiling (c : Ceiling) (r : CeilingRecord) (s : State) : State := s.updCeiling c fun _ => r

/-- A RUNNING unit with the Supply Monitor given. -/
def withSupply (m : SupplyMonitor) : State := { running with supply := m }

/-- A RUNNING unit with the management line given. -/
def withLine (l : Line) : State := { running with line := l }

/-- A reset of this kind in progress, with the supply good or not, and RST high or recognised low. -/
def inReset (kind : ResetCause) (good high : Bool) : State :=
  { State.reset with
    unit :=
      { State.reset.unit with inReset := some kind, supplyGood := good, rstHigh := high, rstRecognised := !high }
    notices := ⟨[], [], false⟩ }

/-- A seat ON at 13.55 W that stands on the commit list. -/
def onRecord : PortRecord :=
  { portIn .on with
    grade := some 3, allocation := some 13550, currentLimit := some 13550, switch := .on, supervision := .watching
    countdown := .running 5 }

/-- One port of each kind that the invariants speak of: seat 1 ON, seat 2 SHED, seat 3 QUEUED with a mark, C1 in WAIT_SLOT, seat 4 in SEARCH. -/
def busy : State :=
  let s := running.updPort 0 fun _ => onRecord
  let s := s.updPort 1 fun _ => { portIn .shed with grade := some 3 }
  let s := s.updPort 2 fun _ => { portIn .queued with grade := some 3, mark := some 13550 }
  let s := s.updPort 48 fun _ =>
    { portIn .recycle with grade := some 3, allocation := some 13550, recyclePhase := some .waitSlot }
  let s := s.updPort 3 fun _ => { portIn .search with operation := .probe, countdown := .running 9 }
  { s with
    supply := { s.supply with activeWindow := some 1, latestVoltage := some 1100, temperature := 20 }
    ledger := ⟨900000, 0, 880000, none, [48, 0]⟩
    stack := [⟨.gapRide, false, .running 100, [⟨1, 13550⟩]⟩]
    queue := [⟨48, 1, .reserved, 2, 0⟩, ⟨2, 2, .marked, 1, 3⟩] }

/-! ### Well-formedness: a refused term for each check -/

theorem test_bodyFits_refuses_201_bytes :
    (Instr.readLedger .own (List.replicate 201 0)).bodyFits = false
      ∧ (Instr.readLedger .own (List.replicate 201 0)).wellFormed = false := by decide +kernel

theorem test_bodyFits_takes_200_bytes : (Instr.readLedger .own (List.replicate 200 0)).wellFormed = true := by
  decide +kernel

theorem test_frameAsNamed_refuses_a_known_kind :
    (Instr.unknownKindRequest 0x01 []).frameAsNamed = false ∧ (Instr.unknownKindRequest 0x01 []).wellFormed = false
      ∧ (Instr.unknownKindRequest 0x00 []).wellFormed = true := by decide +kernel

theorem test_frameAsNamed_refuses_a_right_crc :
    (Instr.crcMismatch 1 1 [] (crc16 [1, 1, 0])).wellFormed = false
      ∧ (Instr.crcMismatch 1 1 [] (crc16 [1, 1, 0] + 1)).wellFormed = true := by decide +kernel

theorem test_frameAsNamed_refuses_a_capable_broadcast :
    (Instr.goodFrameIgnored 0 0x21 []).wellFormed = false ∧ (Instr.goodFrameIgnored 0 0x31 []).wellFormed = true := by
  decide +kernel

theorem test_readingFits_refuses_24_bits_and_more :
    (Instr.temperatureSample (.reading 8388608)).wellFormed = false
      ∧ (Instr.temperatureSample (.reading 8388607)).wellFormed = true
      ∧ (Instr.temperatureSample (.reading (-8388609))).wellFormed = false := by decide +kernel

/-! ### Values the spec gives -/

/-- R155: the CRC of "123456789" is 0x29B1. -/
theorem test_crc_check_value : crc16 [0x31, 0x32, 0x33, 0x34, 0x35, 0x36, 0x37, 0x38, 0x39] = 0x29B1 := by decide +kernel

/-- The table of R96. -/
theorem test_allocation_table :
    allocationFor 25500 60 70000 = (27050, false) ∧ allocationFor 6500 40 70000 = (6800, false)
      ∧ allocationFor 6500 40 6800 = (6800, false) ∧ allocationFor 6500 40 6750 = (6750, true)
      ∧ allocationFor 3500 13 70000 = (3550, false) ∧ allocationFor 40000 40 70000 = (41600, false)
      ∧ allocationFor 1000 0 1000 = (1000, false) ∧ allocationFor 60000 250 70000 = (70000, true)
      ∧ allocationFor 13000 40 10000 = (10000, true) := by decide

/-- R85: with T0 55 and k 5000, 61 degrees give 30 000 mW and 55 give 0. -/
theorem test_derate_of_the_worked_case :
    Settings.builtIn.supply.derateAt 61 = 30000 ∧ Settings.builtIn.supply.derateAt 55 = 0
      ∧ Settings.builtIn.supply.derateAt (-40) = 0 := by decide

/-- Section 4.2: with the defaults 960 dV is window 1, 959 dV window 2, 1380 dV and 769 dV window 0. -/
theorem test_default_windows :
    Settings.builtIn.matchWindow 960 = 1 ∧ Settings.builtIn.matchWindow 959 = 2 ∧ Settings.builtIn.matchWindow 1380 = 0
      ∧ Settings.builtIn.matchWindow 769 = 0 ∧ Settings.builtIn.matchWindow 770 = 2 := by decide

/-- R166: an ADDR strap of 0 is address 31. -/
theorem test_unit_address : unitAddress ⟨0, 0, false⟩ = 31 ∧ unitAddress ⟨7, 0, false⟩ = 7 := by decide

/-- R44: the nearest of 1, 4 and 16, the higher at equal distance. -/
theorem test_nearest_period : [0, 1, 2, 3, 4, 9, 10, 16, 255].map nearestPeriod = [1, 1, 1, 4, 4, 4, 16, 16, 16] := by decide

/-! ### Single commands -/

/-- R161 and section 11.3: the Identify reply from reset, part code 5608 low byte first, address 31 by default, HELD, POWER. -/
theorem test_identify_from_reset :
    (after (.identify .own [0]) State.reset).line.reply = some ⟨0x01, [0, 0xE8, 0x15, 1, 31, 1, 0, 0, 0, 1, 0, 0]⟩ := by
  decide +kernel

/-- R176: the RESET_DONE notice taken at once is kind 1, URGENT, stamp 0, cause POWER; ATTN is then released (R164). -/
theorem test_take_reset_done :
    (after (.takeNotices .own [8]) State.reset).line.reply =
        some ⟨0x35, [0, 1, 0, 0, 0, 0x81, 0, 0, 0, 0, 0, 1, 0, 0, 0, 0]⟩
      ∧ (after (.takeNotices .own [8]) State.reset).attnLow = false := by decide +kernel

theorem test_commission_then_again :
    ((after (.commission .own [0]) State.reset).port 55).state = .search
      ∧ (after (.commission .own [1]) running).line.reply = some ⟨0x02, [0x20]⟩ := by decide +kernel

/-- R15: a cap of 12 345 mW is stored as 12 300 and a loss of 300 as 250, answered DONE_CLAMPED. -/
theorem test_set_port_rounds :
    let t := after (.setPort .own [1, 56, 1, 0, 0x39, 0x30, 0, 0x2C, 1]) State.reset
    (t.settings.profiles.get 1).get 55 = ⟨true, 0, 12300, 250⟩ ∧ t.line.reply = some ⟨0x10, [1]⟩ := by decide +kernel

theorem test_set_window_refuses_equal_bounds :
    (after (.setWindow .own [3, 1, 10, 0, 10, 0, 0, 0, 0]) State.reset).line.reply = some ⟨0x14, [0x13]⟩
      ∧ (after (.setWindow .own [5]) State.reset).line.reply = some ⟨0x14, [0x12]⟩ := by decide +kernel

/-- Section 12.2: the first voltage sample at 1084 dV activates window 1, and with D at 350 000 mW A is 530 000 mW. -/
theorem test_first_voltage :
    (after (.voltageSample 1084) State.reset).supply.activeWindow = some 1
      ∧ (after (.voltageSample 1084) State.reset).ledger.available = 530000 := by decide +kernel

/-- Section 12.2: 61 degrees then give A = 850 000 mW. -/
theorem test_temperature_of_the_worked_case :
    (after (.temperatureSample (.reading 61)) (after (.voltageSample 1084) State.reset)).ledger.available = 850000 := by
  decide +kernel

theorem test_shed_to_sheds_the_latest_grant :
    let t := after (.shedTo .broadcast [1, 0, 0, 0]) busy
    t.stack.map (·.entries.map (·.port)) = [[0, 48], [1]] ∧ t.pledged = 0 ∧ t.queue.map (·.kind) = [.ordinary] := by
  decide +kernel

theorem test_valid_then_grade_queues :
    ((after (.detectionResult 3 .valid) busy).port 3).state = .classify
      ∧ (after (.gradeResult 5 2) (withPort 5 { portIn .classify with operation := .grade })).queue =
        [⟨5, 2, .ordinary, 1, 0⟩] := by decide +kernel

/-- R148 and R149: the RESERVED entry is granted without a test and keeps its allocation. -/
theorem test_reserved_grant_keeps_the_allocation :
    let s := withPort 48 { portIn .recycle with
      allocation := some 27050, recyclePhase := some .offTime, countdown := .due }
    ((after (.offTimeExpiry 0) s).port 48).state = .inrush
      ∧ ((after (.offTimeExpiry 0) s).port 48).currentLimit = some 27050 := by decide +kernel

theorem test_overload_after_tolerance :
    let s := withPort 0 { onRecord with supervision := .timing, tolerance := .due, excursion := some ⟨0, 50⟩ }
    ((after (.overload 0) (after (.toleranceExpiry 0) s)).port 0).lastFault = some .overload
      ∧ ((after (.overload 0) s).port 0).state = .on := by decide +kernel

/-! ### States and operands that meet the hypotheses of the statements -/

theorem witness_EveryCommandAnswersAndResetsTakeNone :
    (inReset .pin true false).unit.inReset.isSome = true ∧ (Instr.voltageSample 0).ofReset = false := by decide

/-- The clauses: a reset, a due event, a tick with and without a waiting reply, and its last moment; a countdown due and the same one not due. -/
theorem witness_EmptyQueueStepIsDueEventOrTick :
    (inReset .power false true).pending = [] ∧ busy.pending = [] ∧ busy.awake ∧ dueEvents busy = []
      ∧ dueEvents (withPort 0 { onRecord with countdown := .due }) = [.forgivenessExpiry 0]
      ∧ (withPort 0 { onRecord with countdown := .due }).due (.forgivenessExpiry 0) ∧ ¬ busy.due (.forgivenessExpiry 0)
      ∧ (let s := withLine { Line.atReset with receiver := .closed, reply := some ⟨1, [0]⟩, replyAge := 9 }
        dueEvents s = [] ∧ s.line.reply.isSome = true ∧ s.line.driver = false ∧ 9 ≤ s.line.replyAge) := by
  unfold State.awake State.due
  decide +kernel

/-- Each condition met and not met, together with the other. -/
theorem witness_SupplyAndRstBeginAndEndResets :
    State.reset.unit.supplyGood = true ∧ State.reset.unit.rstHigh = true ∧ State.reset.unit.rstRecognised = false
      ∧ (∀ high, (inReset .power false high).unit.supplyGood = false ∧ (inReset .power true high).unit.supplyGood = true
        ∧ (inReset .power false high).unit.rstHigh = high ∧ (inReset .power true high).unit.rstHigh = high
        ∧ (inReset .power false high).unit.rstRecognised = !high) := by decide

/-- R167: RST held low through a power-up, recognised after the supply became good, ends with cause PIN; released before that, with POWER. -/
theorem test_rst_held_low_through_a_power_up :
    let s : State := after .supplyFail State.reset
    let low : State := after (.supplyGood ⟨⟨7, 0, false⟩, false⟩) s
    low.unit.inReset = some .power
      ∧ (after (.rstHigh ⟨9, 1, true⟩) (after .rstLow low)).unit.resetCause = .pin
      ∧ (after (.rstHigh ⟨9, 1, true⟩) (after .rstLow low)).unit.straps = ⟨9, 1, true⟩
      ∧ (after (.rstHigh ⟨9, 1, true⟩) low).unit.resetCause = .power
      ∧ (after (.rstHigh ⟨9, 1, true⟩) (after (.supplyGood ⟨⟨7, 0, false⟩, false⟩) (after .rstLow s))).unit.resetCause
        = .power := by decide +kernel

theorem witness_RestartResetsAfterItsReply :
    running.listening ∧ (List.replicate 200 (0 : Byte)).length ≤ 200 ∧ List.replicate 200 (0 : Byte) ≠ [] :=
  ⟨⟨rfl, rfl⟩, by decide +kernel⟩

theorem witness_CommissionAndAutonomyEnterRunning :
    let s : State := { State.reset with unit := { State.reset.unit with autonomy := .due } }
    s.listening ∧ s.unit.unitState = .held ∧ s.heldQuiet ∧ s.line.restartPending = false ∧ s.unit.autonomy = .due
      ∧ running.listening ∧ running.unit.unitState = .running ∧ State.reset.unit.autonomy ≠ .due := by
  refine ⟨⟨rfl, rfl⟩, rfl, ?_, rfl, rfl, ⟨rfl, rfl⟩, rfl, by decide⟩
  unfold State.heldQuiet
  decide +kernel

theorem witness_RequestIsTheBytesOfItsFrame :
    (Instr.enable .broadcast 3 [4]).requestOf = some (.broadcast, .portCommand, [3, 1, 4]) ∧ busy.awake
      ∧ (List.replicate 200 (0 : Byte)).length ≤ 200 := ⟨rfl, rfl, by decide +kernel⟩

/-- Another unit's address, address 0 with a kind that is not capable, and kind 0. -/
theorem witness_LineIgnoresWhatIsNotForTheUnit :
    (withLine { Line.atReset with receiver := .closed }).awake ∧ (Instr.lineByte 0xA5 false).ofLine = true
      ∧ running.listening ∧ (7 : Byte).toNat ≠ unitAddress running.unit.straps
      ∧ (0 : Byte).toNat ≠ unitAddress running.unit.straps
      ∧ (∀ k, kindOfCode 0x31 = some k → k ∉ [.commission, .restart, .selectProfile, .shedTo])
      ∧ (Instr.readGap .broadcast []).requestOf = some (.broadcast, .readGap, []) ∧ kindOfCode 0 = none := by
  refine ⟨rfl, rfl, ⟨rfl, rfl⟩, by decide, by decide, ?_, rfl, by decide⟩
  intro k h
  obtain rfl : k = .readLedger := by simpa using h.symm.trans (by decide : kindOfCode 0x31 = some .readLedger)
  decide

/-- A length of 201, one byte above the limit, and a whole frame but for its last byte, with a wrong one to come. -/
theorem witness_DiscardedFramesAreCounted :
    running.awake ∧ running.line.receiver = .hunting ∧ (0 : BitVec 16) ≠ crc16 (frameCore 1 1 [])
      ∧ (withLine { Line.atReset with receiver := .collecting, errorCount := 65535 }).line.receiver = .collecting
      ∧ (let s := withLine { Line.atReset with receiver := .collecting, buffer := [1, 1] }
        s.line.buffer = [1, 1] ∧ 200 < (201 : Byte).toNat ∧ ¬ 200 < (200 : Byte).toNat)
      ∧ (let s := withLine { Line.atReset with receiver := .collecting, buffer := [1, 1, 0, 0] }
        s.line.buffer = 1 :: 1 :: byteOf ([] : List Byte).length :: [] ++ [0]
          ∧ (0 : Byte).toNat + 256 * (0 : Byte).toNat ≠ (crc16 [1, 1, byteOf ([] : List Byte).length]).toNat) :=
  ⟨rfl, rfl, by decide +kernel, rfl, by decide +kernel⟩

/-- Hunting, the second byte, the length byte at 200, the last byte but one, the last byte with its CRC right, closed with and without a reply. -/
theorem witness_ReceiverBeginsCollectsAndReopens :
    running.awake ∧ running.line.receiver = .hunting ∧ running.line.reply = none
      ∧ (let s := withLine { Line.atReset with receiver := .collecting, buffer := [1] }
        s.awake ∧ s.line.receiver = .collecting ∧ s.line.buffer.length < 2)
      ∧ ((200 : Byte).toNat ≤ 200 ∧ ([] : List Byte).length < (200 : Byte).toNat + 2
        ∧ [(1 : Byte), 1, 0] ++ [5] = 1 :: 1 :: 0 :: [5] ∧ ([5] : List Byte).length < (0 : Byte).toNat + 2)
      ∧ (let crc := (crc16 [1, 1, byteOf ([] : List Byte).length]).toNat
        (byteOf crc).toNat + 256 * (byteOf (crc / 256)).toNat = crc)
      ∧ (let s := withLine { Line.atReset with receiver := .closed, reply := some ⟨1, [0]⟩ }
        s.awake ∧ s.line.receiver = .closed ∧ s.line.reply.isSome = true ∧ s.line.restartPending = false) :=
  ⟨rfl, rfl, rfl, ⟨rfl, rfl, by decide⟩, by decide, by decide +kernel, rfl, rfl, rfl, rfl⟩

theorem witness_ReplyBeginsWithinTenMilliseconds :
    let s := withLine { Line.atReset with receiver := .closed, reply := some ⟨1, [0]⟩ }
    s.line.reply = some ⟨1, [0]⟩ ∧ s.line.driver = false ∧ s.line.replyAge = 0 := by decide

/-- A request to the unit with a wrong length; broadcasts: the first index above 1, the first selector above 1, a wrong length. -/
theorem witness_RefusedRequestChangesNothing :
    (Instr.readPort .own [1]).requestOf = some (.own, .readPort, [1]) ∧ running.listening ∧ bodyLengthOf .readPort = some 2
      ∧ (after (.readPort .own [1]) running).line.reply = some ⟨0x30, [0x10]⟩
      ∧ running.line.restartPending = false ∧ running.unit.unitState = .running ∧ 2 ≤ (2 : Byte).toNat
      ∧ ([1, 2, 3] : List Byte).length = 3
      ∧ (Instr.restart .broadcast [0]).requestOf = some (.broadcast, .restart, [0]) ∧ bodyLengthOf .restart = some 0 :=
  ⟨rfl, ⟨rfl, rfl⟩, rfl, by decide +kernel, rfl, rfl, by decide, rfl, rfl, rfl⟩

/-- Ports 0, 1, 56 and 57 and commands 0, 1, 4 and 5 fall where the clauses say. -/
theorem witness_PortCommandChecksInOrder :
    State.reset.unit.unitState = .held ∧ running.unit.unitState = .running ∧ running.listening
      ∧ (handler .portCommand [0, 1] running).status = .badPort ∧ (handler .portCommand [57, 0] running).status = .badPort
      ∧ (handler .portCommand [1] running).status = .badFrame ∧ (handler .portCommand [56, 0] running).status = .badField
      ∧ (handler .portCommand [56, 5, 0] running).status = .badField
      ∧ (handler .portCommand [1, 1, 0] running).status = .badFrame
      ∧ (handler .portCommand [1, 4] running).status = .notCeiling :=
  ⟨rfl, rfl, ⟨rfl, rfl⟩, by decide +kernel⟩

/-- HELD, the profile not in force, an unchanged port, an admin change, and a SHED port raised to 0; the ends of both ranges. -/
theorem witness_SetPortStoresItsSettings :
    State.reset.listening ∧ State.reset.unit.unitState = .held ∧ busy.listening ∧ busy.unit.unitState = .running
      ∧ (1 : Fin 2) ≠ busy.settings.inForce ∧ busy.portSettings 1 = ⟨true, 2, 70000, 40⟩
      ∧ (busy.port 1).state = .shed ∧ (busy.port 1).mark = none
      ∧ (after (.setPort .own (setPortBody 0 1 ⟨true, 0, 70000, 250⟩)) busy).line.reply = some ⟨0x10, [0]⟩
      ∧ (after (.setPort .own (setPortBody 0 0 ⟨false, 2, 999, 0⟩)) busy).line.reply = some ⟨0x10, [1]⟩
      ∧ ((after (.setPort .own (setPortBody 0 0 ⟨false, 2, 999, 0⟩)) busy).port 0).state = .disabled
      ∧ busy.queueOrdered ∧ busy.queuePriced := by
  unfold State.listening State.awake State.queueOrdered State.queuePriced
  decide +kernel

/-- R18 and R110: a QUEUED port raised to priority 0 keeps kind, rank and pass count, and an entry of priority 1 that was ahead of it falls behind. -/
theorem test_set_port_reprices_the_entry :
    let s : State := { busy with queue := [⟨4, 1, .ordinary, 2, 0⟩, ⟨2, 2, .ordinary, 1, 3⟩] }
    (s.repriceEntry 2 0).queue = [⟨2, 0, .ordinary, 1, 3⟩, ⟨4, 1, .ordinary, 2, 0⟩] := by decide +kernel

theorem witness_SetGradesAndSetTimingStore :
    running.listening ∧ (∀ i : Fin 7, (#v[0, 999, 1000, 60000, 60001, 65535, 5000] : Vector Nat 7).get i < 65536)
      ∧ running.settings.timing.carriable := by
  refine ⟨⟨rfl, rfl⟩, by decide +kernel, ?_⟩
  unfold Timing.carriable
  decide +kernel

theorem witness_SetSupplyStoresAndEvaluates :
    busy.listening ∧ busy.settings.supply.carriable := by
  refine ⟨⟨rfl, rfl⟩, ?_⟩
  unfold SupplySettings.carriable
  decide +kernel

/-- Both sides of the bounds check, both cases of the latest voltage, the first index above 4, and each length at the other's index. -/
theorem witness_SetWindowStoresAndRematches :
    running.listening ∧ running.supply.latestVoltage = none ∧ busy.supply.latestVoltage = some 1100
      ∧ (1000 : Nat) < 65536 ∧ ¬ (min 1500 1500 < min 1501 1500) ∧ (4 : Nat) < (5 : Byte).toNat
      ∧ (List.replicate 8 (0 : Byte)).length ≠ 3 ∧ (List.replicate 3 (0 : Byte)).length ≠ 8 :=
  ⟨⟨rfl, rfl⟩, rfl, rfl, by decide⟩

theorem witness_SelectProfileSwitchesTheProfile :
    State.reset.listening ∧ State.reset.unit.unitState = .held
      ∧ (let s := after (.replySent) (after (.commission .own [0]) State.reset)
        s.listening ∧ s.line.restartPending = false ∧ s.unit.unitState = .running
          ∧ ∀ p, (s.portSettings p).admin = false ↔ (s.port p).state = .disabled)
      ∧ busy.queuePriced ∧ 2 ≤ (2 : Byte).toNat := by
  refine ⟨⟨rfl, rfl⟩, rfl, ⟨?_, by decide +kernel⟩, ?_, by decide⟩
  · unfold State.listening State.awake
    decide +kernel
  · unfold State.queuePriced
    decide +kernel

/-- A state with ports of every kind, in which the extra hypotheses of the DISABLE clause hold. -/
theorem witness_EnableAndDisableWriteAdmin :
    busy.listening ∧ busy.unit.unitState = .running ∧ busy.commitExact ∧ busy.queueExact ∧ busy.marksPlaced
      ∧ busy.shedListed ∧ ∀ q, (busy.port q).allocation.isSome = (busy.port q).state.committed := by
  unfold State.listening State.awake State.commitExact State.queueExact State.marksPlaced State.shedListed
  decide +kernel

theorem witness_ClearActsByState :
    running.listening ∧ ((withPort 48 (portIn .lockout)).port 48).state = .lockout
      ∧ ((withPort 0 (portIn .faultHold)).port 0).state = .faultHold ∧ (busy.port 0).state = .on :=
  ⟨⟨rfl, rfl⟩, by decide +kernel⟩

theorem witness_ForcedRecycleOfACeilingPort :
    running.listening ∧ ((withPort 55 onRecord).port (ceilingPort 7)).state = .on
      ∧ (busy.port (ceilingPort 0)).state ≠ .on ∧ (47 : Port).val < 48 := ⟨⟨rfl, rfl⟩, by decide +kernel⟩

theorem witness_ShedToImposesTheCap :
    busy.listening ∧ busy.line.restartPending = false ∧ (∀ v, some 16777215 = some v → v < 16777216)
      ∧ 2 ≤ (2 : Byte).toNat := by
  refine ⟨⟨rfl, rfl⟩, rfl, ?_, by decide⟩
  rintro v ⟨⟩
  decide

/-- Positions 1 and 56 and depths 1 and 6 are reported; 0, 57 and 7 are not. -/
theorem witness_ReadsReportAndChangeNothing :
    busy.listening ∧ busy.stack[(1 : Byte).toNat - 1]?.isSome = true ∧ busy.stack.length < (6 : Byte).toNat
      ∧ (handler .readQueue [56] busy).status = .done ∧ (handler .readQueue [57] busy).status = .badIndex
      ∧ (handler .readStack [6] busy).status = .done ∧ (handler .readStack [7] busy).status = .badIndex :=
  ⟨⟨rfl, rfl⟩, by decide +kernel⟩

theorem witness_ReportsAreMadeBeforeTheyClear :
    busy.listening ∧ (handler .readPort [56, 1] busy).status = .done ∧ (handler .readPort [57, 2] busy).status = .badPort
      ∧ (handler .readPort [1, 2] busy).status = .badField ∧ (handler .identify [2] busy).status = .badField :=
  ⟨⟨rfl, rfl⟩, by decide +kernel⟩

theorem witness_TakeNoticesRemovesUrgentFirst :
    busy.listening ∧ (handler .takeNotices [0] busy).status = .doneClamped
      ∧ (handler .takeNotices [8] busy).status = .done ∧ (handler .takeNotices [9] busy).status = .doneClamped :=
  ⟨⟨rfl, rfl⟩, by decide +kernel⟩

/-- Section 11.4: PORT_FAULT of port 56, cause OVERLOAD, count 3, at 0x01020304 ms; and a WINDOW_CHANGE that rose, in class ROUTINE. -/
theorem test_notice_bytes :
    noticeBytes ⟨.portFault 55 .overload 3, 0x01020304⟩ = [0x83, 4, 3, 2, 1, 56, 2, 0, 3, 0, 0]
      ∧ noticeBytes ⟨.windowChange 1 900000 false, 0⟩ = [6, 0, 0, 0, 0, 0, 1, 0, 0xA0, 0xBB, 0x0D] := by decide +kernel

/-- 47 and 48 notices held. -/
theorem witness_PostingJoinsItsClassOrOverflows :
    (⟨[], List.replicate 47 ⟨.portShortSeen 0, 0⟩, false⟩ : NoticeQueue).count < 48
      ∧ 48 ≤ (⟨[], List.replicate 48 ⟨.portShortSeen 0, 0⟩, false⟩ : NoticeQueue).count ∧ busy.awake :=
  ⟨by decide +kernel, by decide +kernel, rfl⟩

theorem witness_VoltageMatchesTheLowestWindow : running.awake ∧ running.supply.activeWindow = none := ⟨rfl, rfl⟩

/-- With window 2 active: no active window, the same window, a fall, a rise with and without settling; an equal budget with window 3 added. -/
theorem witness_VoltageSampleAppliesTheWindowRules :
    let g := Settings.builtIn
    let equal : Settings := { g with windows := #v[g.windows.get 0, g.windows.get 1, ⟨true, 0, 100, 500000⟩, g.windows.get 3] }
    running.awake ∧ running.supply.activeWindow = none ∧ g.matchWindow 770 = 2
      ∧ g.windowBudget (g.matchWindow 769) < g.windowBudget 2 ∧ g.windowBudget 2 < g.windowBudget (g.matchWindow 960)
      ∧ equal.matchWindow 50 = 3 ∧ equal.windowBudget 3 = equal.windowBudget 2 ∧ g.supply.settleTime ≠ 0 :=
  ⟨rfl, rfl, by decide⟩

theorem witness_LineSampleBeginsAndEndsGaps :
    (let s := withSupply { SupplyMonitor.atReset with lineRun := 2 }
     s.awake ∧ s.supply.linePresent = true ∧ s.supply.lineRun = 2 ∧ s.supply.state = .present)
    ∧ (let s := withSupply { SupplyMonitor.atReset with
        lineRun := 2, linePresent := false, state := .gapExtended, measurement := some ⟨0, none, 0, true⟩ }
      s.awake ∧ s.supply.linePresent = false ∧ s.supply.measurement = some ⟨0, none, 0, true⟩
        ∧ s.supply.state = .gapExtended ∧ s.settings.supply.recoveryDelay ≠ 0)
    ∧ true ≠ false ∧ running.supply.lineRun < 2 :=
  ⟨⟨rfl, rfl, rfl, rfl⟩, ⟨rfl, rfl, rfl, rfl, by decide⟩, by decide, by decide⟩

theorem witness_SupplyCountdownsExpire :
    (let s := withSupply { SupplyMonitor.atReset with
        rideLimit := .due, state := .gapRide, measurement := some ⟨0, some 1084, 0, false⟩ }
     s.awake ∧ s.supply.rideLimit = .due ∧ s.supply.state = .gapRide
        ∧ s.supply.measurement = some ⟨0, some 1084, 0, false⟩)
    ∧ (let s := withSupply { SupplyMonitor.atReset with recovery := .due, state := .recovery, recoveryCap := some .ride }
      s.supply.recovery = .due ∧ s.supply.state = .recovery)
    ∧ (let s := withSupply { SupplyMonitor.atReset with activeWindow := some 2, candidate := some 1, settle := .due }
      s.supply.candidate = some 1 ∧ s.supply.settle = .due)
    ∧ running.supply.rideLimit ≠ .due ∧ running.supply.recovery ≠ .due ∧ running.supply.candidate = none := by
  refine ⟨⟨rfl, rfl, rfl, rfl⟩, ⟨rfl, rfl⟩, ⟨rfl, rfl⟩, by decide, by decide, rfl⟩

/-- R69: a settling that a sample has just begun again is not ended by an expiry of the settling before it. -/
theorem test_settle_expiry_after_a_restart :
    let s := withSupply { SupplyMonitor.atReset with activeWindow := some 2, candidate := some 0, settle := .due }
    let t := after (.voltageSample 1000) s
    t.supply.candidate = some 1 ∧ after .settleExpiry t = t := by decide +kernel

theorem witness_TemperatureSampleSetsTheDerate :
    busy.awake ∧ (after (.temperatureSample (.reading 126)) busy).supply.temperature = 125
      ∧ (after (.temperatureSample (.reading (-40))) busy).supply.temperature = -40
      ∧ (after (.temperatureSample (.reading (-41))) busy).supply.sensorFaultRun = true := ⟨rfl, by decide +kernel⟩

theorem witness_DetectionResultInSearch :
    busy.awake ∧ (busy.port 3).state = .search ∧ (busy.port 3).operation = .probe ∧ (busy.port 0).state ≠ .search :=
  ⟨rfl, by decide +kernel⟩

/-- SEARCH, CLASSIFY and ON with the countdown come due, FAULT_HOLD with the count one below the limit and at it, and a countdown still running. -/
theorem witness_StateCountdownsExpireByState :
    let r (st : PortState) (n : Nat) : PortRecord := { portIn st with faultCount := n, countdown := .due }
    (withPort 9 (r .search 0)).awake
      ∧ (∀ st ∈ [PortState.search, .classify, .on, .faultHold], ∀ n ∈ [3, 4],
        ((withPort 9 (r st n)).port 9).state = st ∧ ((withPort 9 (r st n)).port 9).countdown = .due
          ∧ ((withPort 9 (r st n)).port 9).faultCount = n)
      ∧ running.settings.timing.faultLimit = 4 ∧ (busy.port 3).countdown ≠ .due := ⟨rfl, by decide +kernel⟩

theorem witness_GradeResultJoinsTheQueue :
    let s := withPort 5 { portIn .classify with operation := .grade, mark := some 50 }
    s.awake ∧ (s.port 5).state = .classify ∧ (s.port 5).operation = .grade ∧ (6 : Fin 8).val < 7 ∧ s.entryOf 5 = none
      ∧ (7 : Fin 8).val = 7 ∧ (s.port 6).state ≠ .classify := ⟨rfl, by decide +kernel⟩

theorem witness_PresenceLostReturnsToSearch :
    busy.awake ∧ (busy.port 2).state = .queued ∧ (busy.port 0).state = .on
      ∧ ((withPort 7 (portIn .inrush)).port 7).state = .inrush ∧ (busy.port 1).state = .shed := ⟨rfl, by decide +kernel⟩

theorem witness_RampCompleteEntersOn :
    let s := withCeiling 0 { CeilingRecord.atReset with linkState := .up } (withPort 48 (portIn .inrush))
    s.awake ∧ (s.port 48).state = .inrush ∧ (s.ceiling 0).linkState = .up ∧ (s.port 0).state ≠ .inrush :=
  ⟨rfl, by decide +kernel⟩

theorem witness_PoweredFaultsEnterFaultHold :
    busy.awake ∧ (busy.port 0).state = .on
      ∧ (let s := withPort 7 { portIn .inrush with countdown := .due }
        (s.port 7).state = .inrush ∧ (s.port 7).countdown = .due)
      ∧ (let s := withPort 7 { onRecord with supervision := .tripped }
        (s.port 7).state = .on ∧ (s.port 7).supervision = .tripped)
      ∧ (busy.port 1).state ≠ .inrush ∧ (busy.port 1).state ≠ .on := ⟨rfl, by decide +kernel⟩

/-- Counts one below the threshold and at 255, with the supply in PRESENT. -/
theorem witness_OvercurrentIsTimedAndCounted :
    busy.awake ∧ (busy.port 0).state = .on ∧ (busy.port 0).supervision = .watching
      ∧ (let s := withPort 7 { onRecord with
          supervision := .timing, tolerance := .due, excursion := some ⟨0, 50⟩, excursionCount := 15 }
        (s.port 7).state = .on ∧ (s.port 7).supervision = .timing ∧ (s.port 7).excursion = some ⟨0, 50⟩
          ∧ (s.port 7).tolerance = .due ∧ ((after (.overcurrentEnd 7) s).port 7).excursionCount = 0
          ∧ s.settings.timing.excursionThreshold = 16)
      ∧ (busy.port 1).supervision ≠ .watching := ⟨rfl, by decide +kernel⟩

/-- A run of 1 and of 2, and both kinds of supervision. -/
theorem witness_LinkSamplesAreFiltered :
    let s := withCeiling 7 { CeilingRecord.atReset with filterRun := 1 }
      (withCeiling 0 { CeilingRecord.atReset with active := true, filterRun := 2, stableCountdown := .due } running)
    s.awake ∧ (s.ceiling 0).linkState = .down ∧ (s.ceiling 7).filterRun < 2 ∧ 2 ≤ (s.ceiling 0).filterRun
      ∧ (s.ceiling 0).active = true ∧ (s.ceiling 0).stableCountdown = .due ∧ (s.ceiling 7).active = false :=
  ⟨rfl, by decide +kernel⟩

/-- The count one below the limit and at it. -/
theorem witness_LinkExpiryRecyclesOrLocksOut :
    ∀ n ∈ [2, 3],
      let s := withCeiling 0 { CeilingRecord.atReset with active := true, linkCountdown := .due, recycleCount := n }
        (withPort 48 onRecord)
      s.unit.inReset = none ∧ (s.ceiling 0).active = true ∧ (s.ceiling 0).linkCountdown = .due
        ∧ (s.port (ceilingPort 0)).state = .on
        ∧ ((after (.linkCountdownExpiry 0) s).port 48).state = (if n = 2 then .recycle else .lockout) := by decide +kernel

theorem witness_OffTimeExpiryWaitsForASlot :
    let r := { portIn .recycle with recyclePhase := some .offTime, countdown := .due, allocation := some 1000 }
    let s := withPort 48 r
    let full := (s.updPort 0 fun _ => portIn .inrush).updPort 1 fun _ => portIn .inrush
    s.awake ∧ (s.port (ceilingPort 0)).state = .recycle ∧ (s.port (ceilingPort 0)).recyclePhase = some .offTime
      ∧ (s.port (ceilingPort 0)).countdown = .due ∧ s.entryOf (ceilingPort 0) = none
      ∧ s.inrushCount < s.settings.timing.inrushSlots ∧ (∀ e ∈ s.queue, e.kind ≠ .reserved)
      ∧ full.settings.timing.inrushSlots ≤ full.inrushCount ∧ (s.port (ceilingPort 7)).state ≠ .recycle :=
  ⟨rfl, by decide +kernel⟩

theorem witness_AllocationIsRoundedThenCapped :
    (busy.port 0).grade = some 3 ∧ (1000 : Nat) ≤ 1000 ∧ (60000 : Nat) ≤ 60000 ∧ (250 : Nat) ≤ 250 ∧ 50 ∣ 70000 := by
  decide +kernel

theorem witness_FitTestByKindAndPriority :
    (⟨5, 3, .ordinary, 1, 0⟩ : QueueEntry).priority ≠ 0 ∧ (⟨5, 0, .ordinary, 1, 0⟩ : QueueEntry).priority = 0
      ∧ (busy.port (⟨2, 2, .marked, 1, 0⟩ : QueueEntry).port).mark = some 13550
      ∧ (⟨48, 1, .reserved, 2, 0⟩ : QueueEntry).kind = .reserved ∧ busy.inrushCount < busy.settings.timing.inrushSlots := by
  decide +kernel

theorem witness_ShedStepStopsAtTheBudget : busy.commitExact ∧ (busy.candidates = [0, 48]) := by
  unfold State.commitExact
  decide +kernel

/-- A stack of 5 and one of 6. -/
theorem witness_BatchIsPushedOrMerged :
    let r : ShedRecord := ⟨.window, false, .idle, [⟨1, 1000⟩]⟩
    (List.replicate 5 r).length < 6 ∧ List.replicate 6 r = r :: List.replicate 5 r ∧ 6 ≤ (List.replicate 6 r).length := by
  decide

/-- A record that passes the test, one that does not, and holds at depths 1 and 2. -/
theorem witness_HoldExpiryAndTheRestoreTest :
    let free : State := { busy with stack := [⟨.gapRide, false, .idle, [⟨1, 13550⟩]⟩] }
    let due : ShedRecord := ⟨.gapRide, false, .due, [⟨1, 13550⟩]⟩
    let one : State := { busy with stack := [due] }
    let two : State := { busy with stack := [⟨.window, false, .idle, [⟨4, 50⟩]⟩, due] }
    free.marksPlaced ∧ free.shedListed ∧ free.restorePasses = true ∧ busy.restorePasses = false ∧ busy.awake
      ∧ one.stack[(0 : Fin 6).val]? = some due ∧ two.stack[(1 : Fin 6).val]? = some due ∧ due.hold = .due
      ∧ (∀ r, busy.stack[(0 : Fin 6).val]? = some r → r.hold ≠ .due) ∧ running.stack = [] := by
  refine ⟨?_, ?_, by decide +kernel, by decide +kernel, rfl, rfl, rfl, rfl, ?_, rfl⟩
  · unfold State.marksPlaced
    decide +kernel
  · unfold State.shedListed
    decide +kernel
  · rintro r ⟨⟩
    decide

/-- Two unfit-and-fit entries of one level, with the first's pass count one below the limit and at it. -/
def twoWaiting (passCount : Nat) : State :=
  let s := (running.updPort 2 fun _ => { portIn .queued with grade := some 6 }).updPort 4 fun _ =>
    { portIn .queued with grade := some 1 }
  { s with
    ledger := { s.ledger with available := 20000 }
    queue := [⟨2, 2, .ordinary, 1, passCount⟩, ⟨4, 2, .ordinary, 2, 0⟩] }

/-- R116 and R117: at 3 of 4 the second is granted and the first's count rises to 4; at 4 the run changes nothing. -/
theorem test_walk_past_an_unfitting_entry :
    (twoWaiting 3).arbiterRun.queue = [⟨2, 2, .ordinary, 1, 4⟩] ∧ ((twoWaiting 3).arbiterRun.port 4).state = .inrush
      ∧ (twoWaiting 4).arbiterRun = twoWaiting 4 := by decide +kernel

theorem witness_ArbiterRunGrantsTheHead :
    busy.inrushCount < busy.settings.timing.inrushSlots ∧ (busy.queue.head?.map (·.kind)) = some .reserved
      ∧ (busy.port 48).state = .recycle ∧ (busy.port 48).recyclePhase = some .waitSlot
      ∧ (let s : State := { busy with queue := [⟨2, 2, .marked, 1, 3⟩] }
        s.fits ⟨2, 2, .marked, 1, 3⟩ = true ∧ (s.port 2).state = .queued)
      ∧ (∀ n ∈ [3, 4], (twoWaiting n).fits ⟨2, 2, .ordinary, 1, n⟩ = false ∧ (twoWaiting n).fits ⟨4, 2, .ordinary, 2, 0⟩ = true
        ∧ ((twoWaiting n).port 4).state = .queued ∧ (twoWaiting n).settings.timing.passLimit = 4
        ∧ (twoWaiting n).inrushCount < (twoWaiting n).settings.timing.inrushSlots) := by decide +kernel

/-- A busy unit meets every invariant, and a step of it answers a next state. -/
theorem witness_EveryStepKeepsNoticesWithinTheirPlaces : busy.noticesFit ∧ ∃ t, step busy = .next t := by
  refine ⟨?_, _, rfl⟩
  unfold State.noticesFit
  decide +kernel

theorem witness_EveryStepKeepsSettingsInRange : busy.settings.inRange := by
  unfold Settings.inRange Timing.inRange SupplySettings.inRange PortSettings.inRange Window.inRange
  decide +kernel

theorem witness_EveryStepKeepsTheFiguresCurrent : busy.figuresCurrent := by
  unfold State.figuresCurrent
  decide +kernel

theorem witness_EveryStepKeepsWithinTheBudget : busy.commitExact ∧ busy.heldQuiet ∧ busy.withinBudget := by
  unfold State.commitExact State.heldQuiet State.withinBudget
  decide +kernel

theorem witness_EveryStepKeepsTheCommitList : busy.commitExact ∧ busy.recycleOnCeiling := by
  refine ⟨witness_EveryStepKeepsWithinTheBudget.1, ?_⟩
  unfold State.recycleOnCeiling
  decide +kernel

theorem witness_EveryStepKeepsHeldQuiet : State.reset.heldQuiet ∧ State.reset.unit.unitState = .held := by
  unfold State.heldQuiet
  decide +kernel

theorem witness_EveryStepKeepsTheQueueOrder : busy.queueOrdered := by
  unfold State.queueOrdered
  decide +kernel

theorem witness_EveryStepKeepsTheQueueExact :
    busy.queueExact ∧ busy.heldQuiet ∧ busy.queuePriced ∧ busy.settings.inRange ∧ busy.inrushBounded := by
  refine ⟨?_, witness_EveryStepKeepsWithinTheBudget.2.1, ?_, witness_EveryStepKeepsSettingsInRange, ?_⟩
  · unfold State.queueExact
    decide +kernel
  · unfold State.queuePriced
    decide +kernel
  · unfold State.inrushBounded
    decide +kernel

theorem witness_EveryStepKeepsTheMarksPlaced : busy.marksPlaced ∧ (busy.port 2).mark.isSome = true := by
  unfold State.marksPlaced
  decide +kernel

theorem witness_EveryStepKeepsTheShedStack :
    busy.commitExact ∧ busy.stackFits ∧ busy.shedListed ∧ busy.heldQuiet ∧ busy.criticalNotShed := by
  unfold State.commitExact State.stackFits State.shedListed State.heldQuiet State.criticalNotShed
  decide +kernel

/-- The straps all low and the cause POWER of State.reset, and what a step from it does: a tick. -/
theorem test_reset_steps_to_a_tick : ∃ t, step State.reset = .next t ∧ t.now = 1 := ⟨_, rfl, by decide +kernel⟩

end Sys2Proof.Tests
end

section
/-! PROOFS. Port Command to a listening RUNNING unit (R39), and what CLEAR does in each port state (R41). -/

namespace Sys2Proof.Machine

/-! ### From a Port Command's bytes to its port's answer -/

/-- A request's answer is its handler's (R157, R158). -/
theorem answers_of_handler {i : Instr} {k : RequestKind} {body : List Byte} (hi : i.requestOf = some (.own, k, body))
    {s : State} (hs : s.listening) (hb : body.length ≤ Config.maxBody) {st : Status} {content : List Byte} {u : State}
    (ha : handler k body s = ⟨st, content, u⟩) : Answers i s k st content u := by
  unfold Answers
  rw [exec_request_own hi hs hb, ha]

/-- The byte of a port's number names that port (R174). -/
@[simp] theorem portOfByte_portNumber (p : Port) : portOfByte (byteOf (portNumber p)).toNat = some p := by
  have hn : (byteOf (portNumber p)).toNat = p.val + 1 := by
    simp only [byteOf, portNumber, BitVec.toNat_ofNat]
    omega
  have hr : 1 ≤ p.val + 1 ∧ p.val + 1 ≤ 56 := by omega
  simp [portOfByte, portOfNumber, hn, hr]

/-- A Port Command that passes every check of R39 acts on its port. -/
theorem answerPortCommand_running {s : State} (hr : s.unit.unitState = .running) (p : Port) {b : Byte} {k : PortCommand}
    (hk : commandOfByte b = some k) : answerPortCommand [byteOf (portNumber p), b] s = answerCommand k p s := by
  simp [answerPortCommand, hr, hk]

/-! ### Clearing a recycle count -/

/-- The ceiling port that a port is, by its port number (R2). -/
theorem ceilingOf_eq_some {p : Port} {c : Ceiling} : ceilingOf p = some c ↔ ceilingPort c = p := by
  have := c.isLt
  unfold ceilingOf ceilingPort
  split <;> simp [Fin.ext_iff] <;> omega

@[simp] theorem clearRecycleCount_ports (s : State) (p : Port) : (s.clearRecycleCount p).ports = s.ports := by
  unfold State.clearRecycleCount; split <;> rfl
@[simp] theorem clearRecycleCount_settings (s : State) (p : Port) : (s.clearRecycleCount p).settings = s.settings := by
  unfold State.clearRecycleCount; split <;> rfl
@[simp] theorem clearRecycleCount_supply (s : State) (p : Port) : (s.clearRecycleCount p).supply = s.supply := by
  unfold State.clearRecycleCount; split <;> rfl
@[simp] theorem clearRecycleCount_ledger (s : State) (p : Port) : (s.clearRecycleCount p).ledger = s.ledger := by
  unfold State.clearRecycleCount; split <;> rfl
@[simp] theorem clearRecycleCount_stack (s : State) (p : Port) : (s.clearRecycleCount p).stack = s.stack := by
  unfold State.clearRecycleCount; split <;> rfl
@[simp] theorem clearRecycleCount_queue (s : State) (p : Port) : (s.clearRecycleCount p).queue = s.queue := by
  unfold State.clearRecycleCount; split <;> rfl
@[simp] theorem clearRecycleCount_notices (s : State) (p : Port) : (s.clearRecycleCount p).notices = s.notices := by
  unfold State.clearRecycleCount; split <;> rfl

@[simp] theorem port_clearRecycleCount (s : State) (p q : Port) : (s.clearRecycleCount p).port q = s.port q :=
  port_congr (by simp) q

/-- The recycle count of the ceiling port that the port is becomes 0, and no other changes (R41). -/
theorem ceiling_clearRecycleCount (s : State) (p : Port) (c : Ceiling) :
    (s.clearRecycleCount p).ceiling c =
      if ceilingPort c = p then { s.ceiling c with recycleCount := 0 } else s.ceiling c := by
  simp only [← ceilingOf_eq_some]
  unfold State.clearRecycleCount
  cases ceilingOf p with
  | none => simp
  | some d =>
    simp only [ceiling_updCeiling, Option.some.injEq, eq_comm (a := d)]
    split
    · next h => rw [h]
    · rfl

theorem sameHost_clearRecycleCount (p : Port) (s : State) : s.sameHost (s.clearRecycleCount p) := by
  unfold State.clearRecycleCount
  split
  · exact sameHost_updCeiling _ _ s
  · exact sameHost_refl s

/-! ### CLEAR (R41) -/

/-- What CLEAR makes of a locked-out port: both counts 0, then SEARCH. -/
def State.unlock (s : State) (p : Port) : State :=
  ((s.updPort p fun r => { r with faultCount := 0 }).clearRecycleCount p).enterSearch p

theorem answerClear_lockout {s : State} {p : Port} (h : (s.port p).state = .lockout) :
    answerClear p s = ⟨.done, [], s.unlock p⟩ := by
  unfold answerClear
  rw [h]
  rfl

theorem answerClear_faultHold {s : State} {p : Port} (h : (s.port p).state = .faultHold) :
    answerClear p s = ⟨.done, [], s.updPort p fun r => { r with faultCount := 0 }⟩ := by
  unfold answerClear
  rw [h]
  rfl

theorem answerClear_wrongState {s : State} {p : Port} (hl : (s.port p).state ≠ .lockout)
    (hf : (s.port p).state ≠ .faultHold) : answerClear p s = ⟨.wrongState, [], s⟩ := by
  unfold answerClear
  split
  · next h => exact absurd h hl
  · next h => exact absurd h hf
  · rfl

theorem port_unlock_self (s : State) (p : Port) :
    (s.unlock p).port p =
      { s.port p with
        state := .search, faultCount := 0, lockoutCause := none, recyclePhase := none, switch := .off, operation := .probe
        countdown := .running s.settings.timing.detectionInterval } := by
  simp [State.unlock, port_enterSearch, PortRecord.enter, loadMs]

theorem otherPortsKept_unlock (s : State) (p : Port) : s.otherPortsKept p (s.unlock p) := by
  intro q hq
  simp [State.unlock, port_enterSearch, hq, port_updPort_ne]

theorem ceiling_unlock (s : State) (p : Port) (c : Ceiling) :
    (s.unlock p).ceiling c = if ceilingPort c = p then { s.ceiling c with recycleCount := 0 } else s.ceiling c := by
  simp [State.unlock, ceiling_clearRecycleCount]

theorem sameHost_unlock (s : State) (p : Port) : s.sameHost (s.unlock p) :=
  sameHost_trans (sameHost_trans (sameHost_updPort p _ s) (sameHost_clearRecycleCount p _)) (sameHost_enterSearch p _)

/-- CLEAR for one port of a listening RUNNING unit answers as `answerClear` does (R39, R41). -/
theorem answers_clear {s : State} (hs : s.listening) (hr : s.unit.unitState = .running) {p : Port} {st : Status}
    {content : List Byte} {u : State} (ha : answerClear p s = ⟨st, content, u⟩) :
    Answers (.clear .own (byteOf (portNumber p)) []) s .portCommand st content u :=
  answers_of_handler rfl hs (by simp [Config.maxBody]) ((answerPortCommand_running hr p (k := .clear) rfl).trans ha)

/-- Settles O21, by the port state that CLEAR finds. -/
theorem clearActsByState : Obligations.ClearActsByState := by
  intro s p hs hr
  refine ⟨fun hlock => ?lockout, fun hhold => ?faultHold, fun hl hf => ?other⟩
  case lockout =>
    refine ⟨s.unlock p, answers_clear hs hr (answerClear_lockout hlock), port_unlock_self s p, otherPortsKept_unlock s p,
      ceiling_unlock s p, sameHost_unlock s p, ?_⟩
    simp [State.unlock]
  case faultHold => exact answers_clear hs hr (answerClear_faultHold hhold)
  case other => exact answers_clear hs hr (answerClear_wrongState hl hf)

end Sys2Proof.Machine
end

section
/-! PROOFS. The Supply Monitor's samples: which window a voltage matches (R63), the window rules a voltage sample goes by (R61, R66 to R68), and the
derate a temperature sample sets (R78, R79). -/

namespace Sys2Proof.Machine

/-! ### The window a voltage matches -/

theorem Window.holds_iff {w : Window} {v : Nat} : w.holds v = true ↔ w.enabled = true ∧ w.low ≤ v ∧ v < w.high := by
  simp [Window.holds]

/-- Windows 1 to 4 are places 0 to 3 of the table, so the match is the first place that holds the voltage (R63). -/
theorem matchWindow_eq_find (g : Settings) (v : Nat) :
    g.matchWindow v = ((Fin.find? fun i => (g.windows.get i).holds v).map Fin.succ).getD 0 := by
  have hplaces : ([1, 2, 3, 4] : List WindowIndex) = (List.finRange 4).map Fin.succ := by decide
  rw [Settings.matchWindow, hplaces, List.find?_map, Fin.find?_eq_find?_finRange]
  rfl

/-- A place found or not, as the window it stands for. -/
theorem windowOfPlace_eq_iff {o : Option (Fin 4)} {w : WindowIndex} :
    (o.map Fin.succ).getD 0 = w ↔ (∃ i, w.val = i.val + 1 ∧ o = some i) ∨ (w = 0 ∧ o = none) := by
  cases o with
  | none => simp [eq_comm]
  | some i =>
    have hw : i.succ = w ↔ w.val = i.val + 1 := by rw [Fin.ext_iff, Fin.val_succ, eq_comm]
    simpa using hw

/-! ### What an evaluation leaves of the Supply Monitor -/

/-- A property of the Supply Monitor that does not look at the gap measurement is kept by every evaluation: only the batch's report to the measurement
writes there (R75). -/
theorem supplyProperty_kept {Q : SupplyMonitor → Prop} (hQ : ∀ m g, Q m → Q { m with measurement := g }) :
    KeptByEvaluation fun t => Q t.supply where
  queued t e hk hf hn h := ((monitors_kept t).queued t e hk hf hn ⟨rfl, rfl, rfl, rfl, rfl, rfl⟩).1 ▸ h
  reserved t e hk hn h := ((monitors_kept t).reserved t e hk hn ⟨rfl, rfl, rfl, rfl, rfl, rfl⟩).1 ▸ h
  passes t l h := h
  pop t hp h := ((monitors_kept t).pop t hp ⟨rfl, rfl, rfl, rfl, rfl, rfl⟩).1 ▸ h
  figures t h := h
  shed t p _ h := by simpa [State.shedPort] using h
  batch t k b _ h := by
    unfold State.makeBatch
    dsimp only
    split
    · exact hQ _ _ (by simpa using h)
    · simpa using h

theorem activeWindow_evaluate (s : State) (k : ShedCause) :
    (s.evaluate k).supply.activeWindow = s.supply.activeWindow :=
  evaluate_keeps (supplyProperty_kept (Q := fun m => m.activeWindow = s.supply.activeWindow) fun _ _ h => h) s k rfl

/-! ### The window rules, one lemma a rule -/

/-- A window made active, with any settling ended (R67, R69). -/
def State.activate (s : State) (w : WindowIndex) : State :=
  s.updSupply fun m => { m with activeWindow := some w, candidate := none, settle := .idle }

theorem windowRules_first {s : State} (h : s.supply.activeWindow = none) (w : WindowIndex) :
    s.windowRules w = (s.activate w, true) := by
  simp [State.windowRules, h, State.activate]

section
variable {s : State} {a w : WindowIndex} (ha : s.supply.activeWindow = some a)
include ha

theorem windowRules_same (hw : w = a) :
    s.windowRules w = (s.updSupply fun m => { m with candidate := none, settle := .idle }, false) := by
  simp [State.windowRules, ha, hw]

theorem windowRules_lower (hb : s.settings.windowBudget w < s.settings.windowBudget a) :
    s.windowRules w = (s.switchWindow w true, true) := by
  have hw : w ≠ a := ne_of_apply_ne s.settings.windowBudget (Nat.ne_of_lt hb)
  simp [State.windowRules, ha, hw, hb, Nat.le_of_lt hb]

theorem windowRules_equal (hw : w ≠ a) (hb : s.settings.windowBudget w = s.settings.windowBudget a) :
    s.windowRules w = (s.switchWindow w false, true) := by
  simp [State.windowRules, ha, hw, hb]

/-- The window rules for a window of higher budget (R68). -/
theorem windowRules_higher (hb : s.settings.windowBudget a < s.settings.windowBudget w) :
    s.windowRules w =
      if s.supply.candidate = some w then (s, false)
      else if s.settings.supply.settleTime = 0 then (s.switchWindow w false, true)
      else (s.updSupply fun m => { m with candidate := some w, settle := loadMs s.settings.supply.settleTime }, false) := by
  have hw : w ≠ a := ne_of_apply_ne s.settings.windowBudget (Nat.ne_of_gt hb)
  simp [State.windowRules, ha, hw, Nat.not_le_of_lt hb]

end

/-! ### Voltage samples -/

/-- A voltage taken as the latest one and by a gap's lowest voltage, before the window rules (R61). -/
def State.noteVoltage (s : State) (v : Nat) : State :=
  s.updSupply fun m => { m with latestVoltage := some v, measurement := m.measurement.map (·.track v) }

/-- A voltage sample is the window rules' outcome on the voltage noted, with one evaluation if they switch (R61). -/
theorem exec_voltageSample {s : State} (hs : s.awake) (raw : Nat) :
    let r := (s.noteVoltage (min raw 1500)).windowRules (s.settings.matchWindow (min raw 1500))
    exec (.voltageSample raw) s = .next (if r.2 then r.1.evaluate .window else r.1) :=
  congrArg Host.Outcome.next (unlessReset_awake hs _)

theorem exec_voltageSample_switched {s t : State} (hs : s.awake) {raw : Nat}
    (hr : (s.noteVoltage (min raw 1500)).windowRules (s.settings.matchWindow (min raw 1500)) = (t, true)) :
    exec (.voltageSample raw) s = .next (t.evaluate .window) := by
  simp [exec_voltageSample hs, hr]

theorem exec_voltageSample_notSwitched {s t : State} (hs : s.awake) {raw : Nat}
    (hr : (s.noteVoltage (min raw 1500)).windowRules (s.settings.matchWindow (min raw 1500)) = (t, false)) :
    exec (.voltageSample raw) s = .next t := by
  simp [exec_voltageSample hs, hr]

/-- Settles O28: the match by the first place of the table that holds the voltage, the first sample by the rule for no active window. -/
theorem voltageMatchesTheLowestWindow : Obligations.VoltageMatchesTheLowestWindow := by
  refine ⟨fun g v w => ?table, fun s raw hs hn => ?firstSample⟩
  case table =>
    rw [matchWindow_eq_find, windowOfPlace_eq_iff]
    simp only [Fin.find?_eq_some_iff, Fin.find?_eq_none_iff, ← Bool.not_eq_true, Window.holds_iff]
  case firstSample =>
    exact ⟨_, exec_voltageSample_switched hs (windowRules_first (s := s.noteVoltage _) hn _), activeWindow_evaluate _ _⟩

/-- Settles O29, one window rule a clause. -/
theorem voltageSampleAppliesTheWindowRules : Obligations.VoltageSampleAppliesTheWindowRules := by
  intro s raw hs v m base active
  refine ⟨fun hn => ?first, fun a ha => ⟨fun hm => ?same, fun _ hlt => ?fall, fun hm heq => ?equal, fun hlt hc => ?settling,
    fun hlt hc hz => ?settle, fun hlt hc hz => ?atOnce⟩⟩
  case first => exact exec_voltageSample_switched hs (windowRules_first (s := s.noteVoltage v) hn m)
  case same => exact exec_voltageSample_notSwitched hs (windowRules_same (s := s.noteVoltage v) ha hm)
  case fall => exact exec_voltageSample_switched hs (windowRules_lower (s := s.noteVoltage v) ha hlt)
  case equal => exact exec_voltageSample_switched hs (windowRules_equal (s := s.noteVoltage v) ha hm heq)
  case settling => exact exec_voltageSample_notSwitched hs ((windowRules_higher (s := s.noteVoltage v) ha hlt).trans (if_pos hc))
  case settle =>
    exact exec_voltageSample_notSwitched hs ((windowRules_higher (s := s.noteVoltage v) ha hlt).trans ((if_neg hc).trans (if_neg hz)))
  case atOnce =>
    exact exec_voltageSample_switched hs ((windowRules_higher (s := s.noteVoltage v) ha hlt).trans ((if_neg hc).trans (if_pos hz)))

/-! ### Temperature samples -/

/-- T and the sensor fault run as a sample sets them, before any notice (R78). -/
def State.setTemperature (s : State) (t : Int) (faulty : Bool) : State :=
  s.updSupply fun m => { m with temperature := t, sensorFaultRun := faulty }

/-- A temperature sample taken with its notice, before any evaluation (R78). -/
def State.noteTemperature (s : State) (x : TempSample) : State :=
  match sensorFaultNotice x with
  | none => s.setTemperature (temperatureTaken x) false
  | some n =>
    if s.supply.sensorFaultRun then s.setTemperature (temperatureTaken x) true
    else (s.setTemperature (temperatureTaken x) true).post n

theorem computeD_noteTemperature (s : State) (x : TempSample) :
    (s.noteTemperature x).computeD = s.settings.supply.derateAt (temperatureTaken x) := by
  unfold State.noteTemperature
  split
  · rfl
  · split
    · rfl
    · simp [State.computeD, State.setTemperature]

/-- A temperature sample is the sample noted, with an evaluation exactly when the derate at its T differs (R79). -/
theorem takeTemperature_eq (s : State) (x : TempSample) :
    s.takeTemperature x =
      if s.settings.supply.derateAt (temperatureTaken x) = s.computeD then s.noteTemperature x
      else (s.noteTemperature x).evaluate .derate := by
  rw [← computeD_noteTemperature]
  unfold State.takeTemperature State.noteTemperature
  cases sensorFaultNotice x <;> rfl

theorem exec_temperatureSample {s : State} (hs : s.awake) (x : TempSample) :
    exec (.temperatureSample x) s =
      .next (if s.settings.supply.derateAt (temperatureTaken x) = s.computeD then s.noteTemperature x
        else (s.noteTemperature x).evaluate .derate) :=
  congrArg Host.Outcome.next ((unlessReset_awake hs _).trans (takeTemperature_eq s x))

/-- A faulty sample posts its notice only as the first of its run (R78). -/
theorem noteTemperature_faulty {s : State} {x : TempSample} {n : NoticeBody} (h : sensorFaultNotice x = some n) :
    s.noteTemperature x =
      if s.supply.sensorFaultRun = false then (s.setTemperature (temperatureTaken x) true).post n
      else s.setTemperature (temperatureTaken x) true := by
  unfold State.noteTemperature
  rw [h]
  cases s.supply.sensorFaultRun <;> rfl

theorem noteTemperature_good {s : State} {x : TempSample} (h : sensorFaultNotice x = none) :
    s.noteTemperature x = s.setTemperature (temperatureTaken x) false := by
  unfold State.noteTemperature
  rw [h]

/-- Settles O32, by a fault report, a reading from -40 to 125, and a reading out of that range. -/
theorem temperatureSampleSetsTheDerate : Obligations.TemperatureSampleSetsTheDerate := by
  intro s x hs
  rw [exec_temperatureSample hs]
  unfold State.computeD SupplySettings.derateAt
  cases x with
  | faultReport =>
    rw [noteTemperature_faulty rfl]
    simp [State.setTemperature, State.updSupply, temperatureTaken]
  | reading v =>
    by_cases hv : -40 ≤ v ∧ v ≤ 125
    · have hn : sensorFaultNotice (.reading v) = none := if_pos hv
      rw [noteTemperature_good hn]
      simp [State.setTemperature, State.updSupply, temperatureTaken, hv]
    · have hn : sensorFaultNotice (.reading v) = some (.sensorOutOfRange v) := if_neg hv
      rw [noteTemperature_faulty hn]
      simp [State.setTemperature, State.updSupply, temperatureTaken, hv]

end Sys2Proof.Machine
end

section
/-! PROOFS. The Budget Ledger: the rounding of an allocation and its cut to the cap (R96), and the free figure a waiting entry is tested against by its kind
and priority (R98). -/

namespace Sys2Proof.Machine

/-! ### The allocation before and after the cap -/

/-- The allocation before the cut to the cap: the raw figure rounded up to a multiple of 50 mW (R96). -/
def roundedAllocation (power loss : Nat) : Nat := 50 * ((power * (1000 + loss) + 49999) / 50000)

theorem allocationFor_eq (power loss cap : Nat) :
    allocationFor power loss cap =
      if cap < roundedAllocation power loss then (cap, true) else (roundedAllocation power loss, false) := rfl

theorem dvd_roundedAllocation (power loss : Nat) : 50 ∣ roundedAllocation power loss := Nat.dvd_mul_right ..

/-- The multiples of 50 mW at or above the rounded figure are those at or above the raw one, so the rounded figure is the least of them (R96). -/
theorem roundedAllocation_le_iff {power loss q : Nat} (hq : 50 ∣ q) :
    roundedAllocation power loss ≤ q ↔ power * (1000 + loss) ≤ 1000 * q := by
  obtain ⟨k, rfl⟩ := hq
  unfold roundedAllocation
  omega

theorem raw_le_roundedAllocation (power loss : Nat) :
    power * (1000 + loss) ≤ 1000 * roundedAllocation power loss :=
  (roundedAllocation_le_iff (dvd_roundedAllocation power loss)).mp (Nat.le_refl _)

/-- Neither the rounding nor the loss allowance takes anything from the grade's power. -/
theorem power_le_roundedAllocation (power loss : Nat) : power ≤ roundedAllocation power loss := by
  have hloss : power * 1000 ≤ power * (1000 + loss) := Nat.mul_le_mul_left power (Nat.le_add_right 1000 loss)
  have hraw := raw_le_roundedAllocation power loss
  omega

theorem computeAllocation_of_grade {s : State} {p : Port} {g : Fin 7} (hg : (s.port p).grade = some g) :
    s.computeAllocation p = allocationFor (s.settings.grades.get g) (s.portSettings p).loss (s.portSettings p).cap := by
  rw [State.computeAllocation, hg, Option.getD_some]

/-- Settles O43: the rounded figure is the least multiple, and either it or the cap below it is the allocation. -/
theorem allocationIsRoundedThenCapped : Obligations.AllocationIsRoundedThenCapped := by
  refine ⟨fun s p g hg => computeAllocation_of_grade hg, fun power loss cap => ⟨?leastThenCut, ?range⟩⟩
  case leastThenCut =>
    refine ⟨roundedAllocation power loss, dvd_roundedAllocation power loss, raw_le_roundedAllocation power loss,
      fun q hq hraw => (roundedAllocation_le_iff hq).mpr hraw, fun hcut => ?_, fun hfits => ?_⟩
    · rw [allocationFor_eq, if_pos hcut]
    · rw [allocationFor_eq, if_neg (Nat.not_lt_of_le hfits)]
  case range =>
    intro hpower _ _ hcapLow hcapHigh hcap
    rw [allocationFor_eq]
    split
    · exact ⟨hcap, hcapLow, hcapHigh⟩
    · next hfits =>
      exact ⟨dvd_roundedAllocation power loss, Nat.le_trans hpower (power_le_roundedAllocation power loss),
        Nat.le_trans (Nat.le_of_not_lt hfits) hcapHigh⟩

/-! ### The free figure by kind and priority -/

theorem fits_iff (s : State) (e : QueueEntry) :
    s.fits e = true ↔ ((s.computeAllocation e.port).1 : Int) ≤ s.freeFigure e := decide_eq_true_iff

section
variable {s : State} {e : QueueEntry}

theorem freeFigure_ordinary_lower (hk : e.kind = .ordinary) (hp : e.priority ≠ 0) :
    s.freeFigure e = (s.ledger.available : Int) - s.committed - s.pledged - s.topReserve := by
  simp [State.freeFigure, hk, hp]

theorem freeFigure_ordinary_top (hk : e.kind = .ordinary) (hp : e.priority = 0) :
    s.freeFigure e = (s.ledger.available : Int) - s.committed - s.pledged := by
  simp [State.freeFigure, hk, hp]

/-- A marked entry is tested against the room that the other ports' pledges leave (R98). -/
theorem freeFigure_marked (hk : e.kind = .marked) {pledge : Nat} (hm : (s.port e.port).mark = some pledge) :
    s.freeFigure e = (s.ledger.available : Int) - s.committed - ((s.pledged : Int) - pledge) := by
  simp [State.freeFigure, hk, hm]

/-- With a slot free the walk grants a RESERVED entry and goes on, whatever the free figure and the level of the walk (R98, R115). -/
theorem walk_reserved (hk : e.kind = .reserved) (hslot : s.inrushCount < s.settings.timing.inrushSlots)
    (rest : List QueueEntry) (level : Option Priority) (passed : List Port) (granted : Bool) :
    walk (e :: rest) level passed granted s = walk rest level passed granted (s.grantReserved e.port) := by
  rw [walk, if_neg (Nat.not_le_of_lt hslot), if_pos hk]

end

/-- Settles O44: one free figure a clause, and the walk's own step for a RESERVED entry. -/
theorem fitTestByKindAndPriority : Obligations.FitTestByKindAndPriority := by
  intro s e a room
  refine ⟨fun hk hp => ?lower, fun hk hp => ?top, fun hk pledge hm => ?marked, fun hk hslot => walk_reserved hk hslot⟩
  case lower => rw [fits_iff, freeFigure_ordinary_lower hk hp]
  case top => rw [fits_iff, freeFigure_ordinary_top hk hp]
  case marked => rw [fits_iff, freeFigure_marked hk hm]

end Sys2Proof.Machine
end

section
/-! PROOFS. Which moves of a port and which other changes the commands are made of, and what every one of them keeps, every step keeps: the case split
over the commands and over the requests is made here once. -/

namespace Sys2Proof.Machine

/-! ### The moves of a port -/

/-- The port states in which a port stands on no list: not on the commit list, not in the queue, not in a shed record (R90, R105, R123). -/
def PortState.idle : PortState → Bool
  | .dormant | .disabled | .search | .classify | .faultHold | .lockout => true
  | .queued | .inrush | .on | .recycle | .shed => false

/-- The port states in which a port may carry a restore mark (R134). -/
def PortState.bearsMark : PortState → Bool
  | .search | .classify | .queued => true
  | _ => false

/-- A record that settles: it ends in an idle state other than DORMANT, and a mark that it carries then it carried before and carried on into a state
that may bear it. -/
structure PortRecord.SettlesTo (r r' : PortRecord) : Prop where
  idle : r'.state.idle = true
  awake : r'.state ≠ .dormant
  mark : r'.mark.isSome = true → r.mark.isSome = true ∧ (r.state.bearsMark = true → r'.state.bearsMark = true)

/-- A record as DISABLED leaves it: front end off and no mark (R16). -/
def PortRecord.turnOff (r : PortRecord) : PortRecord := { r.enter .disabled with switch := .off, mark := none }

/-- What a property needs to be kept by the runs that events ask for (R102, R113). -/
structure KeptByRunning (P : State → Prop) : Prop where
  arbiterRun : ∀ (s : State), P s → P s.arbiterRun
  restoreRun : ∀ (s : State), P s → P s.restoreRun

theorem KeptByRuns.running {P : State → Prop} (h : KeptByRuns P) : KeptByRunning P where
  arbiterRun := arbiterRun_keeps h
  restoreRun := restoreRun_keeps h

/-- The follow-up run of a change keeps what the runs keep (R16, R109). -/
theorem KeptByRunning.follow {P : State → Prop} (h : KeptByRunning P) (s : State) (k : FollowUp) (hs : P s) : P (s.follow k) := by
  cases k with
  | none => exact hs
  | arbiter => exact h.arbiterRun s hs
  | restore => exact h.restoreRun s hs

/-- What a property needs to be kept by every move of a port: between idle states, out of the queue, off the commit list, out of a shed record, into the
queue, and along INRUSH, ON, OFF_TIME and WAIT_SLOT. -/
structure KeptByMoves (P : State → Prop) : Prop extends KeptByRunning P where
  settle : ∀ (s : State) (p : Port) (f : PortRecord → PortRecord), (s.port p).state.idle = true →
    ((s.port p).state = .dormant → s.unit.unitState = .running) → (s.port p).SettlesTo (f (s.port p)) → P s → P (s.updPort p f)
  leave : ∀ (s : State) (p : Port) (f : PortRecord → PortRecord), (s.port p).state = .queued →
    (s.port p).SettlesTo (f (s.port p)) → P s → P ((s.leaveQueue p).updPort p f)
  release : ∀ (s : State) (p : Port) (f : PortRecord → PortRecord), (s.port p).state = .inrush ∨ (s.port p).state = .on →
    (s.port p).SettlesTo (f ((s.release p).port p)) → P s → P ((s.release p).updPort p f)
  disable : ∀ (s : State) (p : Port) (f : PortRecord → PortRecord), (s.port p).state.committed = true →
    (s.port p).SettlesTo (f ((s.release p).port p)) → P s → P (((s.leaveQueue p).release p).updPort p f)
  unshed : ∀ (s : State) (p : Port) (f : PortRecord → PortRecord), (s.port p).state = .shed →
    (s.port p).SettlesTo (f (s.port p)) → P s → P ((s.shrinkRecord p).updPort p f)
  join : ∀ (s : State) (p : Port), (s.port p).state = .classify → P s → P (s.enterQueued p)
  ramp : ∀ (s : State) (p : Port), (s.port p).state = .inrush → P s → P (s.enterOn p)
  recycle : ∀ (s : State) (c : Ceiling), (s.port (ceilingPort c)).state = .on → P s → P (s.enterRecycle (ceilingPort c))
  await : ∀ (s : State) (c : Ceiling), (s.port (ceilingPort c)).state = .recycle →
    (s.port (ceilingPort c)).recyclePhase = some .offTime → P s →
    P ((s.updPort (ceilingPort c) fun r => { r with recyclePhase := some .waitSlot, countdown := .idle }).joinQueue
      (ceilingPort c) .reserved)

section
variable {P : State → Prop} (h : KeptByMoves P)
include h

/-- A port sent to SEARCH from an idle state (R23). -/
theorem KeptByMoves.search {s : State} {p : Port} (hi : (s.port p).state.idle = true)
    (hd : (s.port p).state = .dormant → s.unit.unitState = .running) (hs : P s) : P (s.enterSearch p) :=
  h.settle s p _ hi hd ⟨rfl, nofun, fun hm => ⟨hm, fun _ => rfl⟩⟩ hs

/-- A port disabled from any state, for a unit in RUNNING (R16). -/
theorem disablePort_keeps {s : State} {p : Port} (hr : s.unit.unitState = .running) (hs : P s) : P (s.disablePort p).1 := by
  have hoff : ∀ r r₀ : PortRecord, r.SettlesTo r₀.turnOff := fun _ _ => ⟨rfl, nofun, nofun⟩
  unfold State.disablePort
  dsimp only
  split
  · exact hs
  next hst => exact h.settle s p _ (by rw [hst]; rfl) (fun _ => hr) (hoff _ _) hs
  next hst => exact h.settle s p _ (by rw [hst]; rfl) (fun _ => hr) (hoff _ _) hs
  next hst => exact h.leave s p _ hst (hoff _ _) hs
  next hst => exact h.disable s p _ (by rw [hst]; rfl) (hoff _ _) hs
  next hst => exact h.disable s p _ (by rw [hst]; rfl) (hoff _ _) hs
  next hst => exact h.disable s p _ (by rw [hst]; rfl) (hoff _ _) hs
  next hst => exact h.unshed s p _ hst (hoff _ _) hs
  next hst => exact h.settle s p _ (by rw [hst]; rfl) (fun _ => hr) (hoff _ _) hs
  next hst => exact h.settle s p _ (by rw [hst]; rfl) (fun _ => hr) (hoff _ _) hs
  next hst => exact h.settle s p _ (by rw [hst]; rfl) (fun _ => hr) (hoff _ _) hs

theorem enablePort_keeps {s : State} {p : Port} (hs : P s) : P (s.enablePort p) := by
  unfold State.enablePort
  split
  next hst => exact h.search (by rw [hst]; rfl) (by simp [hst]) hs
  · exact hs

theorem applyAdmin_keeps {s : State} {p : Port} {enabled : Bool} (hr : s.unit.unitState = .running) (hs : P s) :
    P (s.applyAdmin p enabled).1 := by
  unfold State.applyAdmin
  split
  · exact enablePort_keeps h hs
  · exact disablePort_keeps h hr hs

/-- A DORMANT port of a unit that has entered RUNNING leaves DORMANT (R170). -/
theorem wakePort_keeps {s : State} {p : Port} (hr : s.unit.unitState = .running) (hs : P s) : P (s.wakePort p) := by
  unfold State.wakePort
  split
  next hst =>
    split
    · exact h.search (by rw [hst]; rfl) (fun _ => hr) hs
    · exact h.settle s p _ (by rw [hst]; rfl) (fun _ => hr) ⟨rfl, nofun, fun hm => ⟨hm, by simp [hst, PortState.bearsMark]⟩⟩ hs
  · exact hs

end

/-! ### What every command keeps -/

/-- Two records that differ in nothing the invariants speak of. -/
def PortRecord.sameStanding (r r' : PortRecord) : Prop :=
  r'.state = r.state ∧ r'.recyclePhase = r.recyclePhase ∧ r'.allocation = r.allocation ∧ r'.mark = r.mark

/-- What a property needs to be kept by the changes that touch no list and no figure: countdowns and counts, notices, the line, the levels of the pins, a
tick, and the queue of commands. -/
structure KeptByQuiet (P : State → Prop) : Prop where
  quiet : ∀ (s : State) (p : Port) (f : PortRecord → PortRecord), (s.port p).sameStanding (f (s.port p)) → P s → P (s.updPort p f)
  ceiling : ∀ (s : State) (c : Ceiling) (f : CeilingRecord → CeilingRecord), P s → P (s.updCeiling c f)
  post : ∀ (s : State) (b : NoticeBody), P s → P (s.post b)
  rehold : ∀ (s : State) (st : List ShedRecord), st.map (·.entries) = s.stack.map (·.entries) → P s → P { s with stack := st }
  forgetGaps : ∀ (s : State), P s → P (s.updSupply fun m => { m with capture := none, gapsSinceRead := 0 })
  takeNotices : ∀ (s : State) (n : Nat), P s → P { s with notices := (s.notices.remove n).2 }
  lineState : ∀ (s : State) (f : Line → Line), P s → P (s.updLine f)
  pins : ∀ (s : State) (u : StartUp), u.unitState = s.unit.unitState → P s → P { s with unit := u }
  tick : ∀ (s : State), P s → P s.tick
  bookkeeping : ∀ (s : State) (pending : List Instr) (free : Nat), P s → P { s with pending := pending, free := free }

/-- What a property needs to be kept by every step: it survives the moves of ports, the quiet changes, the events of the Supply Monitor, the settings as the
requests store them, entry to RUNNING, and the reset values. -/
structure KeptByCommands (P : State → Prop) : Prop extends KeptByMoves P, KeptByQuiet P where
  voltage : ∀ (s : State) (v : Nat), P s → P (s.takeVoltage v)
  settled : ∀ (s : State), P s → P s.expireSettle
  line : ∀ (s : State) (x : Bool), P s → P (s.takeLine x)
  rideLimit : ∀ (s : State), P s → P s.expireRideLimit
  recovery : ∀ (s : State), P s → P s.expireRecovery
  temperature : ∀ (s : State) (x : TempSample), P s → P (s.takeTemperature x)
  enterRunning : ∀ (s : State) (i : Fin 2) (n : Option NoticeBody), s.unit.unitState = .held → P s → P (s.enterRunning i n)
  storePort : ∀ (s : State) (i : Fin 2) (p : Port) (x : PortSettings), P s → P (s.storePort i p x.take)
  storeGrades : ∀ (s : State) (g : Vector Nat 7), P s → P { s with settings := { s.settings with grades := takeGrades g } }
  storeTiming : ∀ (s : State) (t : Timing), P s → P (s.storeTiming t.take)
  storeSupply : ∀ (s : State) (g : SupplySettings), P s → P (s.storeSupply g.take)
  storeDefaultBudget : ∀ (s : State) (b : Nat), P s → P (s.storeDefaultBudget (takeBudget b))
  storeWindow : ∀ (s : State) (i : Fin 4) (w : Window), (w.take.enabled = true → w.take.low < w.take.high) → P s →
    P (s.storeWindow i w.take)
  switchProfile : ∀ (s : State) (i : Fin 2), P s → P (s.switchProfile i)
  writeAdmin : ∀ (s : State) (p : Port) (a : Bool), P s → P (s.writeAdmin p a)
  impose : ∀ (s : State) (cap : Option Nat), P s → P (s.impose cap)
  blank : ∀ (u : StartUp) (free : Nat) (pending : List Instr), u.unitState = .held → P (State.blank u free pending)

section
variable {P : State → Prop} (h : KeptByCommands P)
include h

/-! ### The events of a port -/

/-- A mark lost in SEARCH, with its restore run (R94). -/
theorem loseMark_keeps {s : State} {p : Port} (hst : (s.port p).state = .search) (hs : P s) : P (s.loseMark p) := by
  unfold State.loseMark
  split
  · have hi : (s.port p).state.idle = true := by rw [hst]; rfl
    refine h.restoreRun _ (h.settle s p _ hi ?_ ⟨hi, ?_, nofun⟩ hs) <;> simp [hst]
  · exact hs

theorem takeDetection_keeps {s : State} (p : Port) (d : Detection) (hs : P s) : P (s.takeDetection p d) := by
  unfold State.takeDetection
  dsimp only
  split
  next hg =>
    have hfree : P (s.updPort p fun r => { r with operation := .none }) := h.quiet s p _ ⟨rfl, rfl, rfl, rfl⟩ hs
    have hseen : ∀ (t : State) (b : Bool), P t → P (t.updPort p fun r => { r with shortSeen := b }) :=
      fun t b ht => h.quiet t p _ ⟨rfl, rfl, rfl, rfl⟩ ht
    split
    · refine h.settle _ p _ ?_ ?_ ⟨rfl, nofun, fun hm => ⟨hm, fun _ => rfl⟩⟩ (hseen _ _ hfree) <;> simp [hg.1, PortState.idle]
    · exact loseMark_keeps h (by simp [hg.1]) (hseen _ _ hfree)
    · exact loseMark_keeps h (by simp [hg.1]) (hseen _ _ hfree)
    · split
      · exact loseMark_keeps h (by simp [hg.1]) (hseen _ _ hfree)
      · exact loseMark_keeps h (by simp [hg.1]) (hseen _ _ (h.post _ _ hfree))
  · exact hs

theorem expireDetection_keeps {s : State} (p : Port) (hs : P s) : P (s.expireDetection p) := by
  unfold State.expireDetection
  split
  · exact h.quiet s p _ ⟨rfl, rfl, rfl, rfl⟩ hs
  · exact hs

theorem acceptGrade_keeps {s : State} {p : Port} (g : Fin 7) (hst : (s.port p).state = .classify) (hs : P s) :
    P (s.acceptGrade p g) := by
  have hgrade : P (s.updPort p fun r => { r with grade := some g }) := h.quiet s p _ ⟨rfl, rfl, rfl, rfl⟩ hs
  unfold State.acceptGrade
  dsimp only
  refine h.arbiterRun _ ?_
  split
  · exact h.join _ p (by simp [hst]) hgrade
  · exact h.join _ p (by simp [hst]) (h.post _ _ hgrade)

theorem rejectGrade_keeps {s : State} {p : Port} (hst : (s.port p).state = .classify) (hs : P s) : P (s.rejectGrade p) := by
  have hdrop : P (s.updPort p fun r => { r with grade := none, mark := none }) := by
    refine h.settle s p _ ?_ ?_ ⟨?_, ?_, nofun⟩ hs <;> simp [hst, PortState.idle]
  have hhold : P ((s.updPort p fun r => { r with grade := none, mark := none }).enterFaultHold p .gradeInvalid) := by
    refine h.post _ _ (h.settle _ p _ ?_ ?_ ⟨rfl, nofun, ?_⟩ hdrop) <;>
      simp [hst, PortState.idle, PortRecord.holdFault, PortRecord.enter]
  unfold State.rejectGrade
  dsimp only
  split
  · exact h.restoreRun _ hhold
  · exact hhold

theorem takeGrade_keeps {s : State} (p : Port) (g : Fin 8) (hs : P s) : P (s.takeGrade p g) := by
  unfold State.takeGrade
  split
  next hg =>
    split
    · exact acceptGrade_keeps h _ hg.1 hs
    · exact rejectGrade_keeps h hg.1 hs
  · exact hs

theorem expireClassify_keeps {s : State} (p : Port) (hs : P s) : P (s.expireClassify p) := by
  unfold State.expireClassify
  split
  next hg => exact h.search (by rw [hg.1]; rfl) (by simp [hg.1]) hs
  · exact hs

theorem losePowered_keeps {s : State} {p : Port} {left : PortState}
    (hst : (s.port p).state = .inrush ∨ (s.port p).state = .on) (hs : P s) : P (s.losePowered p left) := by
  refine h.restoreRun _ (h.post _ _ (h.release s p _ hst ⟨rfl, nofun, fun hm => ⟨?_, fun _ => rfl⟩⟩ hs))
  simpa [PortRecord.enter, port_release] using hm

theorem losePresence_keeps {s : State} (p : Port) (hs : P s) : P (s.losePresence p) := by
  unfold State.losePresence
  split
  next hst =>
    exact h.arbiterRun _
      (h.post _ _ (h.leave s p _ hst ⟨rfl, nofun, fun hm => ⟨hm, fun _ => rfl⟩⟩ hs))
  next hst => exact losePowered_keeps h (.inl hst) hs
  next hst => exact losePowered_keeps h (.inr hst) hs
  · exact hs

theorem completeRamp_keeps {s : State} (p : Port) (hs : P s) : P (s.completeRamp p) := by
  unfold State.completeRamp
  split
  next hst => exact h.arbiterRun _ (h.ramp s p hst hs)
  · exact hs

/-- A released port that ends where no mark is borne settles, whatever marks it had (R134). -/
theorem releasedTo_keeps {s : State} {p : Port} (f : PortRecord → PortRecord)
    (hst : (s.port p).state = .inrush ∨ (s.port p).state = .on) (hi : (f ((s.release p).port p)).state.idle = true)
    (hd : (f ((s.release p).port p)).state ≠ .dormant) (hm : (f ((s.release p).port p)).mark = ((s.release p).port p).mark)
    (hs : P s) : P ((s.release p).updPort p f) := by
  refine h.release s p f hst ⟨hi, hd, fun hmark => ⟨?_, fun hb => ?_⟩⟩ hs
  · rw [hm, port_release, if_pos rfl] at hmark
    exact hmark
  · obtain hst | hst := hst <;> simp [hst, PortState.bearsMark] at hb

theorem faultPowered_keeps {s : State} {p : Port} (c : FaultCause) (hst : (s.port p).state = .inrush ∨ (s.port p).state = .on)
    (hs : P s) : P (s.faultPowered p c) :=
  h.restoreRun _ (h.post _ _ (releasedTo_keeps h _ hst rfl nofun rfl hs))

theorem takeShort_keeps {s : State} (p : Port) (hs : P s) : P (s.takeShort p) := by
  unfold State.takeShort
  split
  next hst => exact faultPowered_keeps h _ (.inl hst) hs
  next hst => exact faultPowered_keeps h _ (.inr hst) hs
  · exact hs

theorem expireInrush_keeps {s : State} (p : Port) (hs : P s) : P (s.expireInrush p) := by
  unfold State.expireInrush
  split
  next hg => exact faultPowered_keeps h _ (.inl hg.1) hs
  · exact hs

theorem expireForgiveness_keeps {s : State} (p : Port) (hs : P s) : P (s.expireForgiveness p) := by
  unfold State.expireForgiveness
  split
  · exact h.quiet s p _ ⟨rfl, rfl, rfl, rfl⟩ hs
  · exact hs

theorem expireHoldoff_keeps {s : State} (p : Port) (hs : P s) : P (s.expireHoldoff p) := by
  unfold State.expireHoldoff
  split
  next hg =>
    have hi : (s.port p).state.idle = true := by rw [hg.1]; rfl
    split
    · exact h.post _ _ (h.settle s p _ hi (by simp [hg.1]) ⟨rfl, nofun, fun hm => ⟨hm, by simp [hg.1, PortState.bearsMark]⟩⟩ hs)
    · exact h.search hi (by simp [hg.1]) hs
  · exact hs

theorem expireHold_keeps {s : State} (d : Fin 6) (hs : P s) : P (s.expireHold d) := by
  unfold State.expireHold
  split
  · exact hs
  next r hr =>
    split
    · have hset : P { s with stack := s.stack.set d.val { r with hold := .idle } } := by
        refine h.rehold s _ ?_ hs
        obtain ⟨hlt, rfl⟩ := List.getElem?_eq_some_iff.mp hr
        refine List.ext_getElem (by simp) fun i hi _ => ?_
        simp only [List.getElem_map, List.getElem_set]
        split
        next hd => subst hd; rfl
        · rfl
      dsimp only
      split
      · exact h.restoreRun _ hset
      · exact hset
    · exact hs

/-! ### The events of the Overcurrent Monitor -/

theorem beginExcursion_keeps {s : State} (p : Port) (hs : P s) : P (s.beginExcursion p) := by
  unfold State.beginExcursion
  dsimp only
  split
  · exact h.quiet s p _ ⟨rfl, rfl, rfl, rfl⟩ hs
  · exact hs

theorem countExcursion_keeps {s : State} (p : Port) (hs : P s) : P (s.countExcursion p) := by
  unfold State.countExcursion
  dsimp only
  split
  · exact h.quiet _ p _ ⟨rfl, rfl, rfl, rfl⟩ (h.post _ _ hs)
  · exact h.quiet s p _ ⟨rfl, rfl, rfl, rfl⟩ hs

theorem endExcursion_keeps {s : State} (p : Port) (hs : P s) : P (s.endExcursion p) := by
  unfold State.endExcursion
  split
  · have hpeak : P (s.updPort p fun r =>
        { r with tolerance := .idle, peakExcursion := peakAfter r.peakExcursion (s.excursionLength p) }) :=
      h.quiet s p _ ⟨rfl, rfl, rfl, rfl⟩ hs
    dsimp only
    split
    · exact h.quiet _ p _ ⟨rfl, rfl, rfl, rfl⟩ hpeak
    · exact h.quiet _ p _ ⟨rfl, rfl, rfl, rfl⟩ (countExcursion_keeps h p hpeak)
  · exact hs

theorem expireTolerance_keeps {s : State} (p : Port) (hs : P s) : P (s.expireTolerance p) := by
  unfold State.expireTolerance
  split
  · exact h.quiet s p _ ⟨rfl, rfl, rfl, rfl⟩ hs
  · exact hs

theorem takeOverload_keeps {s : State} (p : Port) (hs : P s) : P (s.takeOverload p) := by
  unfold State.takeOverload
  split
  next hg => exact faultPowered_keeps h _ (.inr hg.1) hs
  · exact hs

/-! ### The events of Link Sense and Recovery -/

theorem senseLink_keeps {s : State} (c : Ceiling) (l : LinkLevel) (hs : P s) : P (s.senseLink c l) := by
  unfold State.senseLink
  dsimp only
  split
  · exact h.ceiling _ _ _ (h.ceiling _ _ _ hs)
  · split
    · exact h.ceiling _ _ _ (h.ceiling _ _ _ hs)
    · exact h.post _ _ (h.ceiling _ _ _ (h.ceiling _ _ _ hs))

theorem expireLink_keeps {s : State} (c : Ceiling) (hs : P s) : P (s.expireLink c) := by
  unfold State.expireLink
  split
  · have hidle := h.ceiling s c (fun r => { r with linkCountdown := .idle }) hs
    dsimp only
    split
    next hst =>
      split
      · exact h.restoreRun _ (h.post _ _ (releasedTo_keeps h _ (.inr hst) rfl nofun rfl hidle))
      · exact h.post _ _ (h.recycle _ c (by simpa using hst) (h.ceiling _ _ _ hidle))
    · exact hidle
  · exact hs

theorem expireStable_keeps {s : State} (c : Ceiling) (hs : P s) : P (s.expireStable c) := by
  unfold State.expireStable
  split
  · exact h.ceiling _ _ _ hs
  · exact hs

theorem expireOffTime_keeps {s : State} (c : Ceiling) (hs : P s) : P (s.expireOffTime c) := by
  unfold State.expireOffTime
  dsimp only
  split
  next hg => exact h.arbiterRun _ (h.await s c hg.1 hg.2.1 hs)
  · exact hs

/-! ### Resets and the autonomy expiry -/

theorem endReset_keeps (s : State) (cause : ResetCause) (straps : Straps) : P (s.endReset cause straps) := by
  unfold State.endReset
  exact h.post _ _ (h.blank _ _ _ rfl)

theorem supplyFails_keeps {s : State} (hs : P s) : P s.supplyFails := by
  unfold State.supplyFails
  split
  · exact h.blank _ _ _ rfl
  · exact hs

theorem supplyRises_keeps {s : State} (pins : Pins) (hs : P s) : P (s.supplyRises pins) := by
  unfold State.supplyRises
  split
  · exact hs
  · dsimp only
    split
    · exact endReset_keeps h _ _ _
    · exact h.blank _ _ _ rfl

theorem rstFalls_keeps {s : State} (hs : P s) : P s.rstFalls := by
  unfold State.rstFalls
  split
  · exact hs
  · exact h.blank _ _ _ rfl

theorem rstRises_keeps {s : State} (pins : Straps) (hs : P s) : P (s.rstRises pins) := by
  unfold State.rstRises
  split
  · exact hs
  · dsimp only
    split
    · exact endReset_keeps h _ _ _
    · exact h.pins s _ rfl hs

theorem expireAutonomy_keeps {s : State} (hs : P s) : P s.expireAutonomy := by
  unfold State.expireAutonomy
  split
  next hg => exact h.enterRunning s _ _ hg.1 hs
  · exact hs

/-! ### The requests -/

omit h in
@[simp] theorem accept_state (changed : Bool) (s : State) : (accept changed s).state = s := rfl

omit h in
@[simp] theorem report_state (content : List Byte) (s : State) : (report content s).state = s := rfl

theorem answerIdentify_keeps {s : State} (body : List Byte) (hs : P s) : P (answerIdentify body s).state := by
  unfold answerIdentify
  split
  · exact hs
  · split
    · exact hs
    · rw [report_state]
      exact h.lineState _ _ hs

theorem answerCommission_keeps {s : State} (body : List Byte) (hs : P s) : P (answerCommission body s).state := by
  unfold answerCommission
  split
  · exact hs
  · split
    · exact hs
    next i _ =>
      split
      · exact hs
      next hu =>
        rw [accept_state]
        exact h.enterRunning s i none hu hs

theorem answerRestart_keeps {s : State} (body : List Byte) (hs : P s) : P (answerRestart body s).state := by
  unfold answerRestart
  split
  · exact hs
  · rw [accept_state]
    exact h.lineState _ _ hs

theorem answerSetPort_keeps {s : State} (body : List Byte) (hs : P s) : P (answerSetPort body s).state := by
  unfold answerSetPort
  split
  · exact hs
  · split
    · exact hs
    · split
      · exact hs
      · split
        · exact h.storePort s _ _ _ hs
        · exact hs

theorem answerSetGrades_keeps {s : State} (body : List Byte) (hs : P s) : P (answerSetGrades body s).state := by
  unfold answerSetGrades
  split
  · exact hs
  · exact h.storeGrades s _ hs

theorem answerSetTiming_keeps {s : State} (body : List Byte) (hs : P s) : P (answerSetTiming body s).state := by
  unfold answerSetTiming
  split
  · exact hs
  · exact h.storeTiming s _ hs

theorem answerSetSupply_keeps {s : State} (body : List Byte) (hs : P s) : P (answerSetSupply body s).state := by
  unfold answerSetSupply
  split
  · exact hs
  · exact h.storeSupply s _ hs

theorem answerWindow_keeps {s : State} (i : Fin 4) (body : List Byte) (hs : P s) : P (answerWindow i body s).state := by
  unfold answerWindow
  split
  · exact hs
  · split
    · exact hs
    · dsimp only
      split
      · exact hs
      next hb => exact h.storeWindow s _ _ (fun he => Nat.lt_of_not_le fun hle => hb ⟨he, hle⟩) hs

theorem answerSetWindow_keeps {s : State} (body : List Byte) (hs : P s) : P (answerSetWindow body s).state := by
  unfold answerSetWindow
  split
  · exact hs
  · split
    · exact hs
    · split
      · unfold answerDefaultBudget
        split
        · exact hs
        · exact h.storeDefaultBudget s _ hs
      · exact answerWindow_keeps h _ _ hs

theorem answerSelectProfile_keeps {s : State} (body : List Byte) (hs : P s) : P (answerSelectProfile body s).state := by
  unfold answerSelectProfile
  split
  · exact hs
  · split
    · exact hs
    · exact h.switchProfile s _ hs

theorem answerClear_keeps {s : State} (p : Port) (hs : P s) : P (answerClear p s).state := by
  unfold answerClear
  split
  next hst =>
    have hcount : P (s.updPort p fun r => { r with faultCount := 0 }) := h.quiet s p _ ⟨rfl, rfl, rfl, rfl⟩ hs
    refine h.search (s := (s.updPort p fun r => { r with faultCount := 0 }).clearRecycleCount p) ?_ ?_ ?_
    · simp [hst, PortState.idle]
    · simp [hst]
    · unfold State.clearRecycleCount
      split
      · exact h.ceiling _ _ _ hcount
      · exact hcount
  · rw [accept_state]
    exact h.quiet s p _ ⟨rfl, rfl, rfl, rfl⟩ hs
  · exact hs

theorem answerRecycle_keeps {s : State} (p : Port) (hs : P s) : P (answerRecycle p s).state := by
  unfold answerRecycle
  split
  · exact hs
  next c hc =>
    split
    next hst => exact h.post _ _ (h.recycle s c (by rw [ceilingOf_eq_some.mp hc, hst]) hs)
    · exact hs

theorem answerCommand_keeps {s : State} (k : PortCommand) (p : Port) (hr : s.unit.unitState = .running) (hs : P s) :
    P (answerCommand k p s).state := by
  cases k with
  | enable => exact enablePort_keeps h.toKeptByMoves (h.writeAdmin s p true hs)
  | disable => exact h.follow _ _ (disablePort_keeps h.toKeptByMoves hr (h.writeAdmin s p false hs))
  | clear => exact answerClear_keeps h p hs
  | recycle => exact answerRecycle_keeps h p hs

theorem answerPortCommand_keeps {s : State} (body : List Byte) (hs : P s) : P (answerPortCommand body s).state := by
  unfold answerPortCommand
  split
  · exact hs
  · exact hs
  next hr =>
    split
    · exact hs
    · exact hs
    · split
      · exact hs
      · exact hs
      · exact answerCommand_keeps h _ _ hr hs

theorem answerShedTo_keeps {s : State} (body : List Byte) (hs : P s) : P (answerShedTo body s).state := by
  unfold answerShedTo
  split
  · exact hs
  · split
    · exact hs
    · exact h.impose s _ hs
    · exact h.impose s _ hs

theorem answerReadPort_keeps {s : State} (body : List Byte) (hs : P s) : P (answerReadPort body s).state := by
  unfold answerReadPort
  split
  · exact hs
  · split
    · exact hs
    · exact hs
    · rw [report_state]
      exact h.quiet s _ _ ⟨rfl, rfl, rfl, rfl⟩ hs

omit h in
theorem answerRead_keeps {s : State} {k : RequestKind} (hk : k = .readLedger ∨ k = .readQueue ∨ k = .readStack)
    (body : List Byte) (hs : P s) : P (handler k body s).state := by
  obtain rfl | rfl | rfl := hk
  · show P (answerReadLedger body s).state
    unfold answerReadLedger
    split <;> exact hs
  · show P (answerReadQueue body s).state
    unfold answerReadQueue
    split
    · exact hs
    · split <;> exact hs
  · show P (answerReadStack body s).state
    unfold answerReadStack
    split
    · exact hs
    · split <;> exact hs

theorem answerReadGap_keeps {s : State} (body : List Byte) (hs : P s) : P (answerReadGap body s).state := by
  unfold answerReadGap
  split
  · exact hs
  · exact h.forgetGaps s hs

theorem answerTakeNotices_keeps {s : State} (body : List Byte) (hs : P s) : P (answerTakeNotices body s).state := by
  unfold answerTakeNotices
  split
  · exact hs
  · exact h.takeNotices s _ hs

/-- A request's handler keeps what the commands' changes keep (section 9.6). -/
theorem handler_keeps {s : State} (k : RequestKind) (body : List Byte) (hs : P s) : P (handler k body s).state := by
  cases k with
  | identify => exact answerIdentify_keeps h body hs
  | commission => exact answerCommission_keeps h body hs
  | restart => exact answerRestart_keeps h body hs
  | setPort => exact answerSetPort_keeps h body hs
  | setGrades => exact answerSetGrades_keeps h body hs
  | setTiming => exact answerSetTiming_keeps h body hs
  | setSupply => exact answerSetSupply_keeps h body hs
  | setWindow => exact answerSetWindow_keeps h body hs
  | selectProfile => exact answerSelectProfile_keeps h body hs
  | portCommand => exact answerPortCommand_keeps h body hs
  | shedTo => exact answerShedTo_keeps h body hs
  | readPort => exact answerReadPort_keeps h body hs
  | readLedger => exact answerRead_keeps (.inl rfl) body hs
  | readQueue => exact answerRead_keeps (.inr (.inl rfl)) body hs
  | readStack => exact answerRead_keeps (.inr (.inr rfl)) body hs
  | readGap => exact answerReadGap_keeps h body hs
  | takeNotices => exact answerTakeNotices_keeps h body hs

/-! ### The line -/

theorem takeOwn_keeps {s : State} (kind : Byte) (body : List Byte) (hs : P s) : P (s.takeOwn kind body) := by
  unfold State.takeOwn State.withReply answerKind
  refine h.lineState _ _ ?_
  split
  · exact handler_keeps h _ body hs
  · exact hs

theorem takeBroadcast_keeps {s : State} (k : RequestKind) (body : List Byte) (hs : P s) : P (s.takeBroadcast k body) := by
  unfold State.takeBroadcast
  dsimp only
  split
  · exact endReset_keeps h _ _ _
  · exact h.lineState _ _ (handler_keeps h k body hs)

theorem discard_keeps {s : State} (hs : P s) : P s.discard := h.lineState _ _ (h.lineState _ _ hs)

theorem checkFrame_keeps {s : State} (addr kind : Byte) (body : List Byte) (crc : BitVec 16) (hs : P s) :
    P (s.checkFrame addr kind body crc) := by
  unfold State.checkFrame
  split
  · unfold State.goodFrame
    split
    · exact takeOwn_keeps h kind body hs
    · split
      · split
        · split
          · exact takeBroadcast_keeps h _ body hs
          · exact h.lineState _ _ hs
        · exact h.lineState _ _ hs
      · exact h.lineState _ _ hs
  · exact discard_keeps h hs

theorem takeByte_keeps {s : State} (b : Byte) (fe : Bool) (hs : P s) : P (s.takeByte b fe) := by
  unfold State.takeByte
  split
  · split
    · exact h.lineState _ _ hs
    · exact hs
  · split
    · exact discard_keeps h hs
    · have hjoin := h.lineState s (fun l => { l with buffer := l.buffer ++ [b], byteGap := loadMs Config.byteGap }) hs
      unfold State.examine
      split
      · split
        · exact discard_keeps h hjoin
        · split
          · exact checkFrame_keeps h _ _ _ _ hjoin
          · exact hjoin
      · exact hjoin
  · exact hs

theorem arrive_keeps {s : State} (addr kind : Byte) (body : List Byte) (crc : BitVec 16) (hs : P s) :
    P (s.arrive addr kind body crc) := by
  unfold State.arrive State.takeBytes
  split
  · exact hs
  · split
    · exact checkFrame_keeps h _ _ _ _ hs
    · exact foldl_keeps (fun _ b hb => takeByte_keeps h b false hb) _ _ hs
  · exact foldl_keeps (fun _ b hb => takeByte_keeps h b false hb) _ _ hs

theorem faultFrame_keeps {s : State} (f : FrameFault) (hs : P s) : P (s.faultFrame f) := by
  unfold State.faultFrame
  split
  · exact discard_keeps h hs
  · exact hs

theorem expireByteGap_keeps {s : State} (hs : P s) : P s.expireByteGap := by
  unfold State.expireByteGap
  split
  · exact discard_keeps h hs
  · exact hs

theorem endReply_keeps {s : State} (hs : P s) : P s.endReply := by
  unfold State.endReply
  split
  · exact hs
  · dsimp only
    split
    · exact endReset_keeps h _ _ _
    · exact h.lineState _ _ (h.lineState _ _ hs)

/-! ### Every command and every step -/

omit h in
theorem taken_keeps {f : State → State} (hf : ∀ s, P s → P (f s)) {s t : State} (hs : P s) (ht : taken s f = .next t) : P t := by
  cases ht
  unfold State.unlessReset
  split
  · exact hs
  · exact hf s hs

theorem request_keeps {c : Instr} {d : Dest} {k : RequestKind} {body : List Byte} (hc : c.requestOf = some (d, k, body))
    {s t : State} (hs : P s) (ht : exec c s = .next t) : P t := by
  rw [exec_request hc] at ht
  exact taken_keeps (f := (·.request d k body)) (fun s hs => arrive_keeps h _ _ _ _ hs) hs ht

/-- A command keeps what the moves and changes keep: one case a row of the command table. -/
theorem exec_keeps (c : Instr) {s t : State} (hs : P s) (ht : exec c s = .next t) : P t := by
  cases hc : c.requestOf with
  | some r => exact request_keeps h hc hs ht
  | none =>
    cases c with
    | unknownKindRequest kind body => exact taken_keeps (fun _ hs => arrive_keeps h _ _ _ _ hs) hs ht
    | crcMismatch addr kind body crc => exact taken_keeps (fun _ hs => arrive_keeps h _ _ _ _ hs) hs ht
    | goodFrameIgnored addr kind body => exact taken_keeps (fun _ hs => arrive_keeps h _ _ _ _ hs) hs ht
    | frameFaultDiscard f => exact taken_keeps (fun _ hs => faultFrame_keeps h f hs) hs ht
    | byteGapExpiry => exact taken_keeps (fun _ hs => expireByteGap_keeps h hs) hs ht
    | replySent => exact taken_keeps (fun _ hs => endReply_keeps h hs) hs ht
    | lineByte b fe => exact taken_keeps (fun _ hs => takeByte_keeps h b fe hs) hs ht
    | supplyFail => cases ht; exact supplyFails_keeps h hs
    | supplyGood pins => cases ht; exact supplyRises_keeps h pins hs
    | rstLow => cases ht; exact rstFalls_keeps h hs
    | rstHigh pins => cases ht; exact rstRises_keeps h pins hs
    | autonomyExpiry => exact taken_keeps (fun _ hs => expireAutonomy_keeps h hs) hs ht
    | voltageSample v => exact taken_keeps (fun s hs => h.voltage s v hs) hs ht
    | settleExpiry => exact taken_keeps h.settled hs ht
    | linePresentSample x => exact taken_keeps (fun s hs => h.line s x hs) hs ht
    | rideLimitExpiry => exact taken_keeps h.rideLimit hs ht
    | recoveryExpiry => exact taken_keeps h.recovery hs ht
    | temperatureSample x => exact taken_keeps (fun s hs => h.temperature s x hs) hs ht
    | holdExpiry d => exact taken_keeps (fun _ hs => expireHold_keeps h d hs) hs ht
    | detectionResult p d => exact taken_keeps (fun _ hs => takeDetection_keeps h p d hs) hs ht
    | detectionExpiry p => exact taken_keeps (fun _ hs => expireDetection_keeps h p hs) hs ht
    | gradeResult p g => exact taken_keeps (fun _ hs => takeGrade_keeps h p g hs) hs ht
    | classifyLimitExpiry p => exact taken_keeps (fun _ hs => expireClassify_keeps h p hs) hs ht
    | presenceLost p => exact taken_keeps (fun _ hs => losePresence_keeps h p hs) hs ht
    | rampComplete p => exact taken_keeps (fun _ hs => completeRamp_keeps h p hs) hs ht
    | short p => exact taken_keeps (fun _ hs => takeShort_keeps h p hs) hs ht
    | inrushLimitExpiry p => exact taken_keeps (fun _ hs => expireInrush_keeps h p hs) hs ht
    | forgivenessExpiry p => exact taken_keeps (fun _ hs => expireForgiveness_keeps h p hs) hs ht
    | holdoffExpiry p => exact taken_keeps (fun _ hs => expireHoldoff_keeps h p hs) hs ht
    | overcurrentBegin p => exact taken_keeps (fun _ hs => beginExcursion_keeps h p hs) hs ht
    | overcurrentEnd p => exact taken_keeps (fun _ hs => endExcursion_keeps h p hs) hs ht
    | toleranceExpiry p => exact taken_keeps (fun _ hs => expireTolerance_keeps h p hs) hs ht
    | overload p => exact taken_keeps (fun _ hs => takeOverload_keeps h p hs) hs ht
    | linkSenseSample c l => exact taken_keeps (fun _ hs => senseLink_keeps h c l hs) hs ht
    | linkCountdownExpiry c => exact taken_keeps (fun _ hs => expireLink_keeps h c hs) hs ht
    | stableExpiry c => exact taken_keeps (fun _ hs => expireStable_keeps h c hs) hs ht
    | offTimeExpiry c => exact taken_keeps (fun _ hs => expireOffTime_keeps h c hs) hs ht
    | _ => cases hc

/-- A step keeps what the moves and changes keep. -/
theorem KeptByCommands.step {s t : State} (hs : P s) (ht : Machine.step s = .next t) : P t :=
  step_keeps h.bookkeeping h.tick (fun c _ _ hs ht => exec_keeps h c hs ht) hs ht

end

end Sys2Proof.Machine
end

section
/-! PROOFS. The states that the invariants cannot tell apart, and what a property of that part of the state needs to be kept by every command: the moves
of ports, an evaluation, and the changes of priority. -/

namespace Sys2Proof.Machine

/-! ### The settings of a port after a change of one port's settings -/

/-- One port's settings in one profile are written, and nothing else of the Settings Store (R15). -/
theorem writePort_get (g : Settings) (i j : Fin 2) (p q : Port) (x : PortSettings) :
    ((g.writePort i p x).profiles.get j).get q = if j = i ∧ q = p then x else (g.profiles.get j).get q := by
  simp only [Settings.writePort, Vector.get_eq_getElem, Vector.getElem_set, ← Fin.ext_iff, eq_comm (a := i)]
  by_cases hj : j = i
  · subst hj
    by_cases hq : q = p <;> simp [hq, ← Fin.ext_iff, eq_comm (a := p)]
  · simp [hj]

/-- The settings in force after a write to the profile in force. -/
theorem portSettings_write (s : State) (p q : Port) (x : PortSettings) :
    ({ s with settings := s.settings.writePort s.settings.inForce p x } : State).portSettings q =
      if q = p then x else s.portSettings q := by
  refine (writePort_get s.settings s.settings.inForce s.settings.inForce p q x).trans ?_
  simp only [true_and]
  rfl

/-- A write to the profile that is not in force leaves the settings in force. -/
theorem portSettings_write_other (s : State) {i : Fin 2} (hi : i ≠ s.settings.inForce) (p q : Port) (x : PortSettings) :
    ({ s with settings := s.settings.writePort i p x } : State).portSettings q = s.portSettings q := by
  have := writePort_get s.settings i s.settings.inForce p q x
  rwa [if_neg (fun h => hi h.1.symm)] at this

theorem portSettings_congr {s t : State} (h : t.settings = s.settings) (p : Port) : t.portSettings p = s.portSettings p := by
  unfold State.portSettings; rw [h]

theorem priorityOf_congr {s t : State} (h : t.settings = s.settings) (p : Port) : t.priorityOf p = s.priorityOf p := by
  unfold State.priorityOf; rw [portSettings_congr h]

/-- Writing an admin setting leaves every priority (R40). -/
@[simp] theorem priorityOf_writeAdmin (s : State) (p q : Port) (a : Bool) : (s.writeAdmin p a).priorityOf q = s.priorityOf q := by
  unfold State.writeAdmin State.priorityOf
  rw [portSettings_write]
  split
  next h => subst h; rfl
  · rfl

/-- One port's settings written in the profile in force (R15). -/
def State.written (s : State) (p : Port) (x : PortSettings) : State :=
  { s with settings := s.settings.writePort s.settings.inForce p x }

theorem portSettings_written (s : State) (p q : Port) (x : PortSettings) :
    (s.written p x).portSettings q = if q = p then x else s.portSettings q := portSettings_write s p q x

/-- A Set Port of the profile in force up to its admin difference, with the run that it asks for (R15, R16). -/
def State.storeAdmin (s : State) (p : Port) (x : PortSettings) : State × FollowUp :=
  if x.admin = (s.portSettings p).admin then (s.written p x, .none) else (s.written p x).applyAdmin p x.admin

/-- A Set Port of the profile in force while RUNNING: the admin difference, and then its run or the priority difference with its evaluation (R15, R18). -/
theorem storePort_inForce {s : State} (hr : s.unit.unitState = .running) (p : Port) (x : PortSettings) :
    s.storePort s.settings.inForce p x =
      if x.priority = s.priorityOf p then (s.storeAdmin p x).1.follow (s.storeAdmin p x).2
      else ((s.storeAdmin p x).1.applyPriority p x.priority).evaluate .setting := if_pos ⟨rfl, hr⟩

/-- A Set Port of the other profile or while HELD writes the settings alone (R15). -/
theorem storePort_aside {s : State} {i : Fin 2} (h : ¬ (i = s.settings.inForce ∧ s.unit.unitState = .running)) (p : Port)
    (x : PortSettings) : s.storePort i p x = { s with settings := s.settings.writePort i p x } := if_neg h

/-- The admin pass of a profile change while RUNNING (R20). -/
def State.switchAdmins (s : State) (i : Fin 2) : State :=
  allPorts.foldl (fun t p =>
    if ((s.settings.profiles.get i).get p).admin = (s.portSettings p).admin then t
    else (t.applyAdmin p ((s.settings.profiles.get i).get p).admin).1) { s with settings := { s.settings with inForce := i } }

/-- The admin pass and the priority pass of a profile change while RUNNING (R20). -/
def State.switchPriorities (s : State) (i : Fin 2) : State :=
  allPorts.foldl (fun t p =>
    if ((s.settings.profiles.get i).get p).priority = s.priorityOf p then t
    else t.applyPriority p ((s.settings.profiles.get i).get p).priority) (s.switchAdmins i)

/-- A profile change while RUNNING: its two passes, then one evaluation (R20). -/
theorem switchProfile_running {s : State} (hr : s.unit.unitState = .running) (i : Fin 2) :
    s.switchProfile i = (s.switchPriorities i).evaluate .setting := by
  unfold State.switchProfile
  dsimp only
  rw [hr]
  rfl

/-- A profile change while HELD (R20). -/
theorem switchProfile_held {s : State} (hu : s.unit.unitState = .held) (i : Fin 2) :
    s.switchProfile i = { s with settings := { s.settings with inForce := i } } := by
  simp [State.switchProfile, hu]

/-! ### States that the invariants cannot tell apart -/

theorem sameStanding_refl (r : PortRecord) : r.sameStanding r := ⟨rfl, rfl, rfl, rfl⟩

/-- Two states with the same ports, commit list, queue, record entries and unit state, as far as the invariants speak of them. -/
structure State.SameShape (s t : State) : Prop where
  ports : ∀ p, (s.port p).sameStanding (t.port p)
  commitList : t.ledger.commitList = s.ledger.commitList
  queue : t.queue = s.queue
  stack : t.stack.map (·.entries) = s.stack.map (·.entries)
  unitState : t.unit.unitState = s.unit.unitState

/-- Two states of the same shape with the same priorities in force, inrush slots and Available. -/
structure State.SameStanding (s t : State) : Prop extends s.SameShape t where
  priority : ∀ p, t.priorityOf p = s.priorityOf p
  slots : t.settings.timing.inrushSlots = s.settings.timing.inrushSlots
  available : t.ledger.available = s.ledger.available

/-- A state with the same ports and lists has the same shape. -/
theorem sameShape_of_eq {s t : State} (hp : t.ports = s.ports) (hc : t.ledger.commitList = s.ledger.commitList)
    (hq : t.queue = s.queue) (hk : t.stack = s.stack) (hu : t.unit.unitState = s.unit.unitState) : s.SameShape t where
  ports p := by rw [port_congr hp]; exact sameStanding_refl _
  commitList := hc
  queue := hq
  stack := by rw [hk]
  unitState := hu

/-- A change outside the ports, the lists, the settings and the held figures keeps the standing. -/
theorem sameStanding_of_eq {s t : State} (hp : t.ports = s.ports) (hl : t.ledger = s.ledger)
    (hq : t.queue = s.queue) (hk : t.stack = s.stack) (hu : t.unit.unitState = s.unit.unitState)
    (hg : t.settings = s.settings) : s.SameStanding t where
  toSameShape := sameShape_of_eq hp (by rw [hl]) hq hk hu
  priority := priorityOf_congr hg
  slots := by rw [hg]
  available := by rw [hl]

theorem sameStanding_quiet (s : State) (p : Port) (f : PortRecord → PortRecord) (hf : (s.port p).sameStanding (f (s.port p))) :
    s.SameStanding (s.updPort p f) where
  ports q := by
    rw [port_updPort]
    split
    next h => subst h; exact hf
    · exact sameStanding_refl _
  commitList := rfl
  queue := rfl
  stack := rfl
  unitState := rfl
  priority _ := rfl
  slots := rfl
  available := rfl

theorem sameStanding_tick (s : State) : s.SameStanding s.tick where
  ports p := by rw [port_tick]; exact ⟨rfl, rfl, rfl, rfl⟩
  commitList := rfl
  queue := rfl
  stack := by simp [State.tick, Function.comp_def]
  unitState := rfl
  priority _ := rfl
  slots := rfl
  available := rfl

/-- A property of the standing is kept by the quiet changes. -/
theorem keptByQuiet_of_standing {P : State → Prop} (h : ∀ s t : State, s.SameStanding t → P s → P t) : KeptByQuiet P where
  quiet s p f hf := h _ _ (sameStanding_quiet s p f hf)
  ceiling _ _ _ := h _ _ (sameStanding_of_eq rfl rfl rfl rfl rfl rfl)
  post _ _ := h _ _ (sameStanding_of_eq (by simp) (by simp) (by simp) (by simp) (by simp) (by simp))
  rehold _ _ hst := h _ _
    { ports := fun _ => sameStanding_refl _, commitList := rfl, queue := rfl, stack := hst, unitState := rfl
      priority := fun _ => rfl, slots := rfl, available := rfl }
  forgetGaps _ := h _ _ (sameStanding_of_eq rfl rfl rfl rfl rfl rfl)
  takeNotices _ _ := h _ _ (sameStanding_of_eq rfl rfl rfl rfl rfl rfl)
  lineState _ _ := h _ _ (sameStanding_of_eq rfl rfl rfl rfl rfl rfl)
  pins _ _ hu := h _ _ (sameStanding_of_eq rfl rfl rfl rfl hu rfl)
  tick s := h _ _ (sameStanding_tick s)
  bookkeeping _ _ _ := h _ _ (sameStanding_of_eq rfl rfl rfl rfl rfl rfl)

/-! ### Properties of the standing -/

/-- What a property that no input of the figures and no single setting decides needs to be kept by every step: besides moves and quiet changes it
survives an evaluation, entry to RUNNING, the settings of a HELD unit, and the two changes of priority as wholes. -/
structure KeptByStanding (P : State → Prop) : Prop extends KeptByMoves P, KeptByQuiet P where
  supply : ∀ (s : State) (f : SupplyMonitor → SupplyMonitor), P s → P (s.updSupply f)
  imposedCap : ∀ (s : State) (cap : Option Nat), P s → P { s with ledger := { s.ledger with imposedCap := cap } }
  settings : ∀ (s : State) (g : Settings), g.timing = s.settings.timing →
    (∀ p, ({ s with settings := g } : State).priorityOf p = s.priorityOf p) → P s → P { s with settings := g }
  evaluate : ∀ (s : State) (k : ShedCause), P s → P (s.evaluate k)
  wake : ∀ (s : State) (u : StartUp), s.unit.unitState = .held → u.unitState = .running → P s → P { s with unit := u }
  heldSettings : ∀ (s : State) (g : Settings), s.unit.unitState = .held → g.timing = s.settings.timing → P s →
    P { s with settings := g }
  slots : ∀ (s : State) (t : Timing), P s → P { s with settings := { s.settings with timing := t.take } }
  storePriority : ∀ (s : State) (p : Port) (x : PortSettings), s.unit.unitState = .running →
    x.priority ≠ s.priorityOf p → P s → P (s.storePort s.settings.inForce p x)
  switchRunning : ∀ (s : State) (i : Fin 2), s.unit.unitState = .running → P s → P (s.switchProfile i)
  blank : ∀ (u : StartUp) (free : Nat) (pending : List Instr), u.unitState = .held → P (State.blank u free pending)

/-- A property of the standing does not look at the inputs of the figures. -/
theorem supply_of_standing {P : State → Prop} (h : ∀ s t : State, s.SameStanding t → P s → P t) (s : State)
    (f : SupplyMonitor → SupplyMonitor) : P s → P (s.updSupply f) := h _ _ (sameStanding_of_eq rfl rfl rfl rfl rfl rfl)

@[inherit_doc supply_of_standing] theorem imposedCap_of_standing {P : State → Prop}
    (h : ∀ s t : State, s.SameStanding t → P s → P t) (s : State) (cap : Option Nat) :
    P s → P { s with ledger := { s.ledger with imposedCap := cap } } :=
  h _ _ { sameShape_of_eq rfl rfl rfl rfl rfl with priority := fun _ => rfl, slots := rfl, available := rfl }

/-- A write to the settings that leaves the timing and the priorities in force keeps the standing. -/
theorem settings_of_standing {P : State → Prop} (h : ∀ s t : State, s.SameStanding t → P s → P t) (s : State) (g : Settings)
    (ht : g.timing = s.settings.timing) (hp : ∀ p, ({ s with settings := g } : State).priorityOf p = s.priorityOf p) :
    P s → P { s with settings := g } :=
  h _ _ { sameShape_of_eq rfl rfl rfl rfl rfl with priority := hp, slots := by rw [ht], available := rfl }

theorem sameHost_wakePort (p : Port) (s : State) : s.sameHost (s.wakePort p) := by
  unfold State.wakePort
  split
  · split
    · exact sameHost_enterSearch p s
    · exact sameHost_updPort p _ s
  · exact sameHost_refl s

/-- The unit state is the host's part of the state. -/
theorem sameHost_unitState {s t : State} (h : s.sameHost t) : t.unit.unitState = s.unit.unitState := by
  obtain ⟨-, -, hu, -⟩ := h
  rw [hu]

theorem sameHost_settings {s t : State} (h : s.sameHost t) : t.settings = s.settings := h.1

section
variable {P : State → Prop} (h : KeptByStanding P)
include h

theorem KeptByStanding.switchWindow (s : State) (w : WindowIndex) (fell : Bool) (hs : P s) : P (s.switchWindow w fell) :=
  h.post _ _ (h.supply _ _ hs)

theorem KeptByStanding.windowRules (s : State) (w : WindowIndex) (hs : P s) : P (s.windowRules w).1 := by
  have hsupply : ∀ f (b : Bool), P (s.updSupply f, b).1 := fun f _ => h.supply s f hs
  unfold State.windowRules
  split
  · exact hsupply _ true
  · split
    · exact hsupply _ false
    · split
      · exact h.switchWindow _ _ _ hs
      · split
        · exact hs
        · split
          · exact h.switchWindow _ _ _ hs
          · exact hsupply _ false

theorem KeptByStanding.takeVoltage (s : State) (v : Nat) (hs : P s) : P (s.takeVoltage v) := by
  have hw : ∀ w v, P ((s.noteVoltage v).windowRules w).1 := fun w v => h.windowRules _ w (h.supply _ _ hs)
  unfold State.takeVoltage
  dsimp only
  split
  · exact h.evaluate _ _ (hw _ _)
  · exact hw _ _

theorem KeptByStanding.beginGap (s : State) (hs : P s) : P s.beginGap :=
  h.evaluate _ _ (h.post _ _ (h.supply _ _ hs))

theorem KeptByStanding.endGap (s : State) (cap : CapKind) (hs : P s) : P (s.endGap cap) := by
  unfold State.endGap
  dsimp only
  split
  · exact h.evaluate _ _ (h.supply _ _ (h.post _ _ (h.supply _ _ hs)))
  · exact h.evaluate _ _ (h.supply _ _ (h.post _ _ (h.supply _ _ hs)))

theorem KeptByStanding.takeLine (s : State) (x : Bool) (hs : P s) : P (s.takeLine x) := by
  unfold State.takeLine
  split
  · exact h.supply _ _ hs
  · split
    · exact h.supply _ _ hs
    · have hline := h.supply s (fun m => { m with linePresent := x, lineRun := 0 }) hs
      unfold State.lineChanged
      split
      · exact h.beginGap _ hline
      · exact h.beginGap _ hline
      · exact h.endGap _ _ hline
      · exact h.endGap _ _ hline
      · exact hline

theorem KeptByStanding.expireRideLimit (s : State) (hs : P s) : P s.expireRideLimit := by
  unfold State.expireRideLimit
  split
  · dsimp only
    split
    · exact h.evaluate _ _ (h.post _ _ (h.supply _ _ (h.supply _ _ hs)))
    · exact h.supply _ _ hs
  · exact hs

theorem KeptByStanding.expireRecovery (s : State) (hs : P s) : P s.expireRecovery := by
  unfold State.expireRecovery
  split
  · split
    · exact h.evaluate _ _ (h.supply _ _ hs)
    · exact h.supply _ _ hs
  · exact hs

theorem KeptByStanding.noteTemperature (s : State) (x : TempSample) (hs : P s) : P (s.noteTemperature x) := by
  unfold State.noteTemperature
  split
  · exact h.supply _ _ hs
  · split
    · exact h.supply _ _ hs
    · exact h.post _ _ (h.supply _ _ hs)

omit h in
/-- A unit in RUNNING is still in RUNNING after a fold of changes that leave the host's part alone, and a property they keep is kept. -/
theorem foldl_keeps_running {f : State → Port → State} (hf : ∀ (s : State) p, s.sameHost (f s p))
    (hP : ∀ (s : State) p, s.unit.unitState = .running → P s → P (f s p)) (l : List Port) (s : State)
    (hr : s.unit.unitState = .running) (hs : P s) : P (l.foldl f s) :=
  (foldl_keeps (P := fun t => t.unit.unitState = .running ∧ P t)
    (fun t p ht => ⟨(sameHost_unitState (hf t p)).trans ht.1, hP t p ht.1 ht.2⟩) l s ⟨hr, hs⟩).2

theorem KeptByStanding.enterRunning (s : State) (i : Fin 2) (n : Option NoticeBody) (hu : s.unit.unitState = .held) (hs : P s) :
    P (s.enterRunning i n) := by
  have hwake : P { s with
      settings := { s.settings with inForce := i }, unit := { s.unit with unitState := .running, autonomy := .idle } } :=
    h.wake { s with settings := { s.settings with inForce := i } } _ hu rfl (h.heldSettings s _ hu rfl hs)
  unfold State.enterRunning
  refine h.evaluate _ _ (foldl_keeps_running (fun t p => sameHost_wakePort p t)
    (fun t p hr ht => wakePort_keeps h.toKeptByMoves hr ht) _ _ ?_ ?_)
  · cases n <;> simp
  · cases n with
    | none => exact hwake
    | some b => exact h.post _ b hwake

theorem KeptByStanding.storePort (s : State) (i : Fin 2) (p : Port) (x : PortSettings) (hs : P s) : P (s.storePort i p x) := by
  by_cases hact : i = s.settings.inForce ∧ s.unit.unitState = .running
  · obtain ⟨rfl, hr⟩ := hact
    by_cases hx : x.priority = s.priorityOf p
    · have hw : P (s.written p x) := by
        refine h.settings s _ rfl (fun q => ?_) hs
        show ((s.written p x).portSettings q).priority = s.priorityOf q
        rw [portSettings_written]
        split
        next hq => rw [hq, hx]
        · rfl
      rw [storePort_inForce hr, if_pos hx]
      refine h.follow _ _ ?_
      unfold State.storeAdmin
      split
      · exact hw
      · exact applyAdmin_keeps h.toKeptByMoves hr hw
    · exact h.storePriority s p x hr hx hs
  · rw [storePort_aside hact]
    by_cases hi : i = s.settings.inForce
    · refine h.heldSettings s _ ?_ rfl hs
      cases hu : s.unit.unitState with
      | held => rfl
      | running => exact absurd ⟨hi, hu⟩ hact
    · refine h.settings s _ rfl (fun q => ?_) hs
      unfold State.priorityOf
      rw [portSettings_write_other s hi]

theorem KeptByStanding.rematch (s : State) (hs : P s) : P s.rematch := by
  unfold State.rematch
  split
  · exact hs
  · exact h.windowRules _ _ hs

theorem KeptByStanding.switchProfile (s : State) (i : Fin 2) (hs : P s) : P (s.switchProfile i) := by
  cases hu : s.unit.unitState with
  | held =>
    rw [switchProfile_held hu]
    exact h.heldSettings s _ hu rfl hs
  | running => exact h.switchRunning s i hu hs

/-- What moves, quiet changes, evaluations and changes of priority keep, every command keeps. -/
theorem KeptByStanding.commands : KeptByCommands P where
  toKeptByMoves := h.toKeptByMoves
  toKeptByQuiet := h.toKeptByQuiet
  voltage := h.takeVoltage
  settled s hs := by
    unfold State.expireSettle
    split
    · exact h.evaluate _ _ (h.switchWindow _ _ _ hs)
    · exact hs
  line := h.takeLine
  rideLimit := h.expireRideLimit
  recovery := h.expireRecovery
  temperature s x hs := by
    rw [takeTemperature_eq]
    split
    · exact h.noteTemperature s x hs
    · exact h.evaluate _ _ (h.noteTemperature s x hs)
  enterRunning := h.enterRunning
  storePort s i p x hs := h.storePort s i p x.take hs
  storeGrades s g hs := h.settings s _ rfl (fun _ => rfl) hs
  storeTiming s t hs := by
    unfold State.storeTiming
    dsimp only
    split
    · exact h.slots s t hs
    · exact h.arbiterRun _ (h.slots s t hs)
  storeSupply s g hs := h.evaluate _ _ (h.settings s _ rfl (fun _ => rfl) hs)
  storeDefaultBudget s b hs := h.evaluate _ _ (h.rematch _ (h.settings s _ rfl (fun _ => rfl) hs))
  storeWindow s i w _ hs := h.evaluate _ _ (h.rematch _ (h.settings s _ rfl (fun _ => rfl) hs))
  switchProfile := h.switchProfile
  writeAdmin s p a hs := h.settings s _ rfl (fun q => priorityOf_writeAdmin s p q a) hs
  impose s cap hs := h.evaluate _ _ (h.imposedCap s cap hs)
  blank := h.blank

end

/-! ### Properties in which no setting and no figure speaks -/

/-- What a property that no setting and no figure decides needs to be kept by every step. -/
structure KeptByShape (P : State → Prop) : Prop extends KeptByMoves P, KeptByQuiet P where
  supply : ∀ (s : State) (f : SupplyMonitor → SupplyMonitor), P s → P (s.updSupply f)
  imposedCap : ∀ (s : State) (cap : Option Nat), P s → P { s with ledger := { s.ledger with imposedCap := cap } }
  settings : ∀ (s : State) (g : Settings), P s → P { s with settings := g }
  reprice : ∀ (s : State) (p : Port) (k : Priority), P s → P (s.repriceEntry p k)
  evaluate : ∀ (s : State) (k : ShedCause), P s → P (s.evaluate k)
  wake : ∀ (s : State) (u : StartUp), s.unit.unitState = .held → u.unitState = .running → P s → P { s with unit := u }
  blank : ∀ (u : StartUp) (free : Nat) (pending : List Instr), u.unitState = .held → P (State.blank u free pending)

section
variable {P : State → Prop} (h : KeptByShape P)
include h

theorem applyPriority_keeps {s : State} {p : Port} {k : Priority} (hs : P s) : P (s.applyPriority p k) := by
  unfold State.applyPriority
  dsimp only
  split
  next hg =>
    exact h.unshed _ p _ hg.1 ⟨rfl, nofun, fun hm => ⟨hm, fun _ => rfl⟩⟩ (h.reprice s p k hs)
  · exact h.reprice s p k hs

/-- A priority change of the profile in force while RUNNING, up to its evaluation (R15, R18). -/
theorem KeptByShape.repriced {s : State} (p : Port) (x : PortSettings) (hr : s.unit.unitState = .running) (hs : P s) :
    P ((s.storeAdmin p x).1.applyPriority p x.priority) := by
  have hw : P (s.written p x) := h.settings s _ hs
  refine applyPriority_keeps h ?_
  unfold State.storeAdmin
  split
  · exact hw
  · exact applyAdmin_keeps h.toKeptByMoves hr hw

/-- The two passes of a profile change while RUNNING (R20). -/
theorem KeptByShape.switchPriorities {s : State} (i : Fin 2) (hr : s.unit.unitState = .running) (hs : P s) :
    P (s.switchPriorities i) := by
  have hw : P { s with settings := { s.settings with inForce := i } } := h.settings s _ hs
  unfold State.switchPriorities State.switchAdmins
  refine foldl_keeps (P := P) (fun t p ht => ?priority) _ _
    (foldl_keeps (P := fun t => t.unit.unitState = .running ∧ P t) (fun t p ht => ?admin) _ _ ⟨hr, hw⟩).2
  case priority =>
    split
    · exact ht
    · exact applyPriority_keeps h ht
  case admin =>
    obtain ⟨htr, ht⟩ := ht
    split
    · exact ⟨htr, ht⟩
    · exact ⟨(sameHost_unitState (sameHost_applyAdmin p _ t)).trans htr, applyAdmin_keeps h.toKeptByMoves htr ht⟩

/-- A property that no setting decides is not decided by the settings of a HELD unit, the inrush slots or a priority. -/
theorem KeptByShape.toStanding : KeptByStanding P where
  toKeptByMoves := h.toKeptByMoves
  toKeptByQuiet := h.toKeptByQuiet
  supply := h.supply
  imposedCap := h.imposedCap
  settings s g _ _ hs := h.settings s g hs
  evaluate := h.evaluate
  wake := h.wake
  heldSettings s g _ _ hs := h.settings s g hs
  slots s _ hs := h.settings s _ hs
  storePriority s p x hr hx hs := by
    rw [storePort_inForce hr, if_neg hx]
    exact h.evaluate _ _ (h.repriced p x hr hs)
  switchRunning s i hr hs := by
    rw [switchProfile_running hr]
    exact h.evaluate _ _ (h.switchPriorities i hr hs)
  blank := h.blank

/-- A property that no setting and no figure decides and that moves and evaluations keep is kept by every step. -/
theorem KeptByShape.step {s t : State} (hs : P s) (ht : Machine.step s = .next t) : P t := h.toStanding.commands.step hs ht

end

end Sys2Proof.Machine
end

section
/-! PROOFS. Three invariants that no port's state decides: at most 48 notices (R162), every setting in its range, and the held S, D and A those of their
inputs (R83, R101). -/

namespace Sys2Proof.Machine

/-! ### The notices -/

theorem noticesFit_congr {s t : State} (h : t.notices = s.notices) (hs : s.noticesFit) : t.noticesFit := by
  unfold State.noticesFit at *
  rwa [h]

theorem notices_grantQueued (s : State) (p : Port) : (s.grantQueued p).notices = s.notices := by
  unfold State.grantQueued
  dsimp only
  split <;> simp

theorem notices_grantReserved (s : State) (p : Port) : (s.grantReserved p).notices = s.notices := by
  unfold State.grantReserved
  dsimp only
  split <;> simp

theorem notices_restorePort (s : State) (e : ShedEntry) : (s.restorePort e).notices = s.notices := by
  unfold State.restorePort
  split <;> simp

theorem notices_foldl_restorePort (l : List ShedEntry) (s : State) : (l.foldl State.restorePort s).notices = s.notices :=
  foldl_keeps (P := fun t : State => t.notices = s.notices) (fun t e ht => (notices_restorePort t e).trans ht) l s rfl

theorem noticesFit_evaluation : KeptByEvaluation State.noticesFit where
  queued s e _ _ _ := noticesFit_congr (notices_grantQueued s e.port)
  reserved s e _ _ := noticesFit_congr (notices_grantReserved s e.port)
  passes _ _ := noticesFit_congr rfl
  pop s _ hs := by
    unfold State.popRecord
    split
    · exact hs
    · exact noticesFit_post _ _ (noticesFit_congr (notices_foldl_restorePort _ _) hs)
  figures _ := noticesFit_congr rfl
  shed s p _ := noticesFit_congr (by simp [State.shedPort])
  batch s k b _ hs := by
    have hpost : ((s.clearMarks.recordBatch k b).post (.shed k b.length (b.map (·.allocation)).sum)).noticesFit :=
      noticesFit_post _ _ (noticesFit_congr (by simp) hs)
    unfold State.makeBatch
    dsimp only
    split
    · exact noticesFit_congr (by simp) hpost
    · exact hpost

theorem noticesFit_moves : KeptByMoves State.noticesFit where
  toKeptByRunning := noticesFit_evaluation.toKeptByRuns.running
  settle _ _ _ _ _ _ := noticesFit_congr rfl
  leave _ _ _ _ _ := noticesFit_congr (by simp)
  release _ _ _ _ _ := noticesFit_congr (by simp)
  disable _ _ _ _ _ := noticesFit_congr (by simp)
  unshed _ _ _ _ _ := noticesFit_congr rfl
  join _ _ _ := noticesFit_congr (by simp [State.enterQueued])
  ramp _ _ _ := noticesFit_congr (by simp)
  recycle _ _ _ := noticesFit_congr (by simp [State.enterRecycle])
  await _ _ _ _ := noticesFit_congr (by simp)

theorem noticesFit_quiet : KeptByQuiet State.noticesFit where
  quiet _ _ _ _ := noticesFit_congr rfl
  ceiling _ _ _ := noticesFit_congr rfl
  post s b := noticesFit_post s b
  rehold _ _ _ := noticesFit_congr rfl
  forgetGaps _ := noticesFit_congr rfl
  takeNotices s n hs := by
    unfold State.noticesFit NoticeQueue.count NoticeQueue.remove at *
    simp only [List.length_drop]
    omega
  lineState _ _ := noticesFit_congr rfl
  pins _ _ _ := noticesFit_congr rfl
  tick _ := noticesFit_congr rfl
  bookkeeping _ _ _ := noticesFit_congr rfl

theorem noticesFit_shape : KeptByShape State.noticesFit where
  toKeptByMoves := noticesFit_moves
  toKeptByQuiet := noticesFit_quiet
  supply _ _ := noticesFit_congr rfl
  imposedCap _ _ := noticesFit_congr rfl
  settings _ _ := noticesFit_congr rfl
  reprice _ _ _ := noticesFit_congr rfl
  evaluate s k := evaluate_keeps noticesFit_evaluation s k
  wake _ _ _ _ := noticesFit_congr rfl
  blank _ _ _ _ := Nat.zero_le _

/-- Settles O50: a posting alone adds a notice, and none to 48. -/
theorem everyStepKeepsNoticesWithinTheirPlaces : Obligations.EveryStepKeepsNoticesWithinTheirPlaces :=
  fun _ _ hs ht => noticesFit_shape.step hs ht

/-! ### The settings as they are stored -/

theorem clamp_range {low high : Nat} (h : low ≤ high) (v : Nat) : low ≤ clamp low high v ∧ clamp low high v ≤ high := by
  unfold clamp
  omega

theorem roundDown_dvd (step v : Nat) : step ∣ roundDown step v := Nat.dvd_mul_right ..

theorem take_inRange_port (x : PortSettings) : x.take.inRange := by
  unfold PortSettings.inRange
  refine ⟨⟨?_, ?_, roundDown_dvd 50 _⟩, (clamp_range (Nat.zero_le 250) x.loss).2⟩ <;>
    simp only [PortSettings.take, roundDown, clamp] <;> omega

theorem nearestPeriod_mem (v : Nat) : nearestPeriod v ∈ [1, 4, 16] := by
  unfold nearestPeriod
  split
  · simp
  · split <;> simp

theorem take_inRange_timing (t : Timing) : t.take.inRange :=
  ⟨clamp_range (by decide) _, clamp_range (by decide) _, clamp_range (by decide) _, clamp_range (by decide) _,
    clamp_range (by decide) _, clamp_range (by decide) _, clamp_range (by decide) _, clamp_range (by decide) _,
    clamp_range (by decide) _, clamp_range (by decide) _, clamp_range (by decide) _, nearestPeriod_mem _,
    clamp_range (by decide) _, (clamp_range (by decide) _).2⟩

theorem take_inRange_supply (g : SupplySettings) : g.take.inRange :=
  ⟨(clamp_range (by decide) _).2, (clamp_range (by decide) _).2, (clamp_range (by decide) _).2, clamp_range (by decide) _,
    (clamp_range (by decide) _).2, (clamp_range (by decide) _).2, clamp_range (by decide) _, (clamp_range (by decide) _).2,
    (clamp_range (by decide) _).2, (clamp_range (by decide) _).2⟩

theorem takeBudget_inRange (b : Nat) : takeBudget b ≤ 1800000 ∧ 1000 ∣ takeBudget b := by
  refine ⟨?_, roundDown_dvd 1000 _⟩
  simp only [takeBudget, roundDown, clamp, maxBudget]
  omega

theorem take_inRange_window {w : Window} (h : w.take.enabled = true → w.take.low < w.take.high) : w.take.inRange :=
  ⟨(clamp_range (by decide) _).2, (clamp_range (by decide) _).2, takeBudget_inRange _, h⟩

/-! ### What the requests leave in the Settings Store -/

theorem settings_follow (s : State) (k : FollowUp) : (s.follow k).settings = s.settings := (sameHost_follow k s).1

theorem settings_evaluate (s : State) (k : ShedCause) : (s.evaluate k).settings = s.settings := (sameHost_evaluate k s).1

theorem settings_arbiterRun (s : State) : s.arbiterRun.settings = s.settings := (sameHost_arbiterRun s).1

/-- The Settings Store after a Set Port (R15). -/
theorem settings_storePort (s : State) (i : Fin 2) (p : Port) (x : PortSettings) :
    (s.storePort i p x).settings = s.settings.writePort i p x := by
  by_cases hact : i = s.settings.inForce ∧ s.unit.unitState = .running
  · obtain ⟨rfl, hr⟩ := hact
    have hadmin : (s.storeAdmin p x).1.settings = s.settings.writePort s.settings.inForce p x := by
      unfold State.storeAdmin
      split
      · rfl
      · exact (sameHost_applyAdmin p _ _).1
    rw [storePort_inForce hr]
    split
    · rw [settings_follow, hadmin]
    · rw [settings_evaluate, (sameHost_applyPriority p _ _).1, hadmin]
  · rw [storePort_aside hact]

/-- The Settings Store after a profile change (R20). -/
theorem settings_switchProfile (s : State) (i : Fin 2) :
    (s.switchProfile i).settings = { s.settings with inForce := i } := by
  unfold State.switchProfile
  dsimp only
  split
  · rfl
  · rw [settings_evaluate]
    refine foldl_keeps (P := fun t : State => t.settings = { s.settings with inForce := i }) (fun t p ht => ?_) _ _
      (foldl_keeps (P := fun t : State => t.settings = { s.settings with inForce := i }) (fun t p ht => ?_) _ _ rfl)
    · split
      · exact ht
      · exact (sameHost_applyPriority p _ t).1.trans ht
    · split
      · exact ht
      · exact (sameHost_applyAdmin p _ t).1.trans ht

theorem settings_enterRunning (s : State) (i : Fin 2) (n : Option NoticeBody) :
    (s.enterRunning i n).settings = { s.settings with inForce := i } := by
  unfold State.enterRunning
  rw [settings_evaluate]
  refine foldl_keeps (P := fun t : State => t.settings = { s.settings with inForce := i })
    (fun t p ht => (sameHost_wakePort p t).1.trans ht) _ _ ?_
  cases n <;> simp

theorem settings_rematch (s : State) : s.rematch.settings = s.settings := by
  unfold State.rematch
  split
  · rfl
  · exact (sameHost_windowRules _ s).1

/-! ### Every setting in its range -/

theorem inRange_congr {s t : State} (h : t.settings = s.settings) (hs : s.settings.inRange) : t.settings.inRange := by
  rwa [h]

/-- A write of one port's settings in their ranges keeps every setting in its range. -/
theorem inRange_writePort {g : Settings} (i : Fin 2) (p : Port) {x : PortSettings} (hx : x.inRange) (hg : g.inRange) :
    (g.writePort i p x).inRange := by
  obtain ⟨hgrades, hports, htiming, hsupply, hwindows, hbudget⟩ := hg
  refine ⟨hgrades, fun j q => ?_, htiming, hsupply, hwindows, hbudget⟩
  rw [writePort_get]
  split
  · exact hx
  · exact hports j q

theorem settingsInRange_moves : KeptByMoves fun s => s.settings.inRange where
  arbiterRun s := inRange_congr (sameHost_arbiterRun s).1
  restoreRun s := inRange_congr (sameHost_restoreRun s).1
  settle _ _ _ _ _ _ := id
  leave _ _ _ _ _ := inRange_congr (by simp)
  release _ _ _ _ _ := inRange_congr (by simp)
  disable _ _ _ _ _ := inRange_congr (by simp)
  unshed _ _ _ _ _ := id
  join s p _ := inRange_congr (sameHost_enterQueued p s).1
  ramp s p _ := inRange_congr (sameHost_enterOn p s).1
  recycle s c _ := inRange_congr (sameHost_enterRecycle _ s).1
  await _ _ _ _ := inRange_congr (by simp)

theorem settingsInRange_quiet : KeptByQuiet fun s => s.settings.inRange where
  quiet _ _ _ _ := id
  ceiling _ _ _ := id
  post s b := inRange_congr (by simp)
  rehold _ _ _ := id
  forgetGaps _ := id
  takeNotices _ _ := id
  lineState _ _ := id
  pins _ _ _ := id
  tick _ := id
  bookkeeping _ _ _ := id

theorem inRange_builtIn : Settings.builtIn.inRange := by
  unfold Settings.inRange Timing.inRange SupplySettings.inRange PortSettings.inRange Window.inRange
  decide +kernel

theorem settingsInRange_commands : KeptByCommands fun s => s.settings.inRange where
  toKeptByMoves := settingsInRange_moves
  toKeptByQuiet := settingsInRange_quiet
  voltage s v := inRange_congr (sameHost_takeVoltage v s).1
  settled s := inRange_congr (sameHost_expireSettle s).1
  line s x := inRange_congr (sameHost_takeLine x s).1
  rideLimit s := inRange_congr (sameHost_expireRideLimit s).1
  recovery s := inRange_congr (sameHost_expireRecovery s).1
  temperature s x := inRange_congr (sameHost_takeTemperature x s).1
  enterRunning s i n _ hs := by
    rw [settings_enterRunning]
    exact hs
  storePort s i p x hs := by
    rw [settings_storePort]
    exact inRange_writePort i p (take_inRange_port x) hs
  storeGrades s g hs := by
    obtain ⟨-, hrest⟩ := hs
    refine ⟨fun i => ?_, hrest⟩
    show 1000 ≤ (mapAll _ g).get i ∧ (mapAll _ g).get i ≤ 60000
    rw [mapAll_get]
    exact clamp_range (by decide) _
  storeTiming s t hs := by
    have hstored : ({ s with settings := { s.settings with timing := t.take } } : State).settings.inRange := by
      obtain ⟨hgrades, hports, -, hrest⟩ := hs
      exact ⟨hgrades, hports, take_inRange_timing t, hrest⟩
    unfold State.storeTiming
    dsimp only
    split
    · exact hstored
    · exact inRange_congr (settings_arbiterRun _) hstored
  storeSupply s g hs := by
    obtain ⟨hgrades, hports, htiming, -, hrest⟩ := hs
    exact inRange_congr (settings_evaluate _ _) ⟨hgrades, hports, htiming, take_inRange_supply g, hrest⟩
  storeDefaultBudget s b hs := by
    obtain ⟨hgrades, hports, htiming, hsupply, hwindows, -⟩ := hs
    exact inRange_congr ((settings_evaluate _ _).trans (settings_rematch _))
      ⟨hgrades, hports, htiming, hsupply, hwindows, takeBudget_inRange b⟩
  storeWindow s i w hw hs := by
    obtain ⟨hgrades, hports, htiming, hsupply, hwindows, hbudget⟩ := hs
    refine inRange_congr ((settings_evaluate _ _).trans (settings_rematch _))
      ⟨hgrades, hports, htiming, hsupply, fun j => ?_, hbudget⟩
    simp only [Vector.get_eq_getElem, Vector.getElem_set]
    split
    · exact take_inRange_window hw
    · exact hwindows j
  switchProfile s i hs := by
    rw [settings_switchProfile]
    exact hs
  writeAdmin s p a hs := inRange_writePort s.settings.inForce p (hs.2.1 s.settings.inForce p) hs
  impose s cap := inRange_congr (settings_evaluate _ _)
  blank _ _ _ _ := inRange_builtIn

/-- Settles O51: each setting is clamped into its range as it is stored. -/
theorem everyStepKeepsSettingsInRange : Obligations.EveryStepKeepsSettingsInRange :=
  fun _ _ hs ht => settingsInRange_commands.step hs ht

/-! ### The inputs of the figures -/

/-- Two states with the same held figures and the same inputs of the figures (R84 to R86). -/
structure State.SameFigures (s t : State) : Prop where
  held : t.ledger.supplyBudget = s.ledger.supplyBudget ∧ t.ledger.derate = s.ledger.derate
    ∧ t.ledger.available = s.ledger.available
  imposedCap : t.ledger.imposedCap = s.ledger.imposedCap
  supplySettings : t.settings.supply = s.settings.supply
  windowTable : t.settings.windows = s.settings.windows ∧ t.settings.defaultBudget = s.settings.defaultBudget
  activeWindow : t.supply.activeWindow = s.supply.activeWindow
  supplyState : t.supply.state = s.supply.state ∧ t.supply.recoveryCap = s.supply.recoveryCap
  temperature : t.supply.temperature = s.supply.temperature

section
variable {s t : State} (h : s.SameFigures t)
include h

theorem windowBudget_of_sameFigures : t.windowBudget = s.windowBudget := by
  obtain ⟨hw, hd⟩ := h.windowTable
  unfold State.windowBudget Settings.windowBudget
  rw [h.activeWindow, hw, hd]

theorem computeS_of_sameFigures : t.computeS = s.computeS := by
  obtain ⟨hst, hcap⟩ := h.supplyState
  have hgap : t.gapCap = s.gapCap := by
    unfold State.gapCap
    rw [hst, hcap, h.supplySettings]
  unfold State.computeS
  rw [windowBudget_of_sameFigures h, hgap, h.imposedCap]

theorem computeD_of_sameFigures : t.computeD = s.computeD := by
  unfold State.computeD
  rw [h.supplySettings, h.temperature]

theorem figuresCurrent_of_sameFigures (hs : s.figuresCurrent) : t.figuresCurrent := by
  obtain ⟨hS, hD, hA⟩ := h.held
  unfold State.figuresCurrent at *
  rwa [computeS_of_sameFigures h, computeD_of_sameFigures h, hS, hD, hA, h.supplySettings]

end

/-- A change of the commit list alone, and of the gap measurement alone, is none of the figures or their inputs. -/
theorem sameFigures_of_eq {s t : State} (hg : t.settings = s.settings)
    (hl : t.ledger = { s.ledger with commitList := t.ledger.commitList })
    (hm : t.supply = { s.supply with measurement := t.supply.measurement }) : s.SameFigures t where
  held := by rw [hl]; exact ⟨rfl, rfl, rfl⟩
  imposedCap := by rw [hl]
  supplySettings := by rw [hg]
  windowTable := by rw [hg]; exact ⟨rfl, rfl⟩
  activeWindow := by rw [hm]
  supplyState := by rw [hm]; exact ⟨rfl, rfl⟩
  temperature := by rw [hm]

/-- The Budget Ledger after a release (R92). -/
theorem ledger_release (s : State) (p : Port) :
    (s.release p).ledger = { s.ledger with commitList := s.ledger.commitList.filter (· != p) } := by
  unfold State.release
  simp

theorem sameFigures_released (s : State) (p : Port) (f : PortRecord → PortRecord) : s.SameFigures ((s.release p).updPort p f) :=
  sameFigures_of_eq (by simp) (by simp [ledger_release]) (by simp)

/-- What leaves the Supply Monitor and the held figures alone, as grants and pops do, leaves the figures and their inputs. -/
theorem sameFigures_of_monitors {s t : State} (hg : s.sameHost t)
    (h : t.supply = s.supply ∧ t.ceilings = s.ceilings ∧ t.ledger.available = s.ledger.available
      ∧ t.ledger.supplyBudget = s.ledger.supplyBudget ∧ t.ledger.derate = s.ledger.derate
      ∧ t.ledger.imposedCap = s.ledger.imposedCap) : s.SameFigures t := by
  obtain ⟨hm, -, hA, hS, hD, hI⟩ := h
  obtain ⟨hg, -⟩ := hg
  exact ⟨⟨hS, hD, hA⟩, hI, by rw [hg], ⟨by rw [hg], by rw [hg]⟩, by rw [hm], ⟨by rw [hm], by rw [hm]⟩, by rw [hm]⟩

theorem sameFigures_makeBatch (s : State) (k : ShedCause) (b : List ShedEntry) : s.SameFigures (s.makeBatch k b) := by
  unfold State.makeBatch
  dsimp only
  split
  · exact sameFigures_of_eq (by simp) (by simp) (by simp [State.reportShed])
  · exact sameFigures_of_eq (by simp) (by simp) (by simp)

/-- The first step of an evaluation makes the held figures those of their inputs (R101). -/
theorem figuresCurrent_recompute (s : State) : s.recompute.figuresCurrent := ⟨rfl, rfl, rfl⟩

theorem figuresCurrent_evaluation : KeptByEvaluation State.figuresCurrent where
  queued s e hk hf hn := figuresCurrent_of_sameFigures (sameFigures_of_monitors (sameHost_grantQueued e.port s)
    ((monitors_kept s).queued s e hk hf hn ⟨rfl, rfl, rfl, rfl, rfl, rfl⟩))
  reserved s e hk hn := figuresCurrent_of_sameFigures (sameFigures_of_monitors (sameHost_grantReserved e.port s)
    ((monitors_kept s).reserved s e hk hn ⟨rfl, rfl, rfl, rfl, rfl, rfl⟩))
  passes _ _ := figuresCurrent_of_sameFigures (sameFigures_of_eq rfl rfl rfl)
  pop s hp := figuresCurrent_of_sameFigures (sameFigures_of_monitors (sameHost_popRecord s)
    ((monitors_kept s).pop s hp ⟨rfl, rfl, rfl, rfl, rfl, rfl⟩))
  figures s _ := figuresCurrent_recompute s
  shed s p _ := figuresCurrent_of_sameFigures
    (sameFigures_of_eq (by simp [State.shedPort]) (by simp [State.shedPort, ledger_release]) (by simp [State.shedPort]))
  batch s k b _ := figuresCurrent_of_sameFigures (sameFigures_makeBatch s k b)

/-- An evaluation makes the held figures those of their inputs, whatever they were (R101). -/
theorem figuresCurrent_evaluate (s : State) (k : ShedCause) : (s.evaluate k).figuresCurrent :=
  evaluate_keeps figuresCurrent_evaluation s.recompute k (figuresCurrent_recompute s)

/-! ### The figures through the commands -/

theorem figuresCurrent_moves : KeptByMoves State.figuresCurrent where
  toKeptByRunning := figuresCurrent_evaluation.toKeptByRuns.running
  settle _ _ _ _ _ _ := figuresCurrent_of_sameFigures (sameFigures_of_eq rfl rfl rfl)
  leave _ _ _ _ _ := figuresCurrent_of_sameFigures (sameFigures_of_eq (by simp) (by simp) (by simp))
  release s p f _ _ := figuresCurrent_of_sameFigures (sameFigures_released s p f)
  disable s p f _ _ := figuresCurrent_of_sameFigures
    (sameFigures_of_eq (by simp) (by simp [ledger_release]) (by simp))
  unshed _ _ _ _ _ := figuresCurrent_of_sameFigures (sameFigures_of_eq rfl rfl rfl)
  join _ _ _ := figuresCurrent_of_sameFigures
    (sameFigures_of_eq (by simp [State.enterQueued]) (by simp [State.enterQueued]) (by simp [State.enterQueued]))
  ramp _ _ _ := figuresCurrent_of_sameFigures (sameFigures_of_eq (by simp) (by simp) (by simp))
  recycle _ _ _ := figuresCurrent_of_sameFigures
    (sameFigures_of_eq (by simp [State.enterRecycle]) (by simp [State.enterRecycle]) (by simp [State.enterRecycle]))
  await _ _ _ _ := figuresCurrent_of_sameFigures (sameFigures_of_eq (by simp) (by simp) (by simp))

theorem figuresCurrent_quiet : KeptByQuiet State.figuresCurrent where
  quiet _ _ _ _ := figuresCurrent_of_sameFigures (sameFigures_of_eq rfl rfl rfl)
  ceiling _ _ _ := figuresCurrent_of_sameFigures (sameFigures_of_eq rfl rfl rfl)
  post _ _ := figuresCurrent_of_sameFigures (sameFigures_of_eq (by simp) (by simp) (by simp))
  rehold _ _ _ := figuresCurrent_of_sameFigures (sameFigures_of_eq rfl rfl rfl)
  forgetGaps _ := figuresCurrent_of_sameFigures ⟨⟨rfl, rfl, rfl⟩, rfl, rfl, ⟨rfl, rfl⟩, rfl, ⟨rfl, rfl⟩, rfl⟩
  takeNotices _ _ := figuresCurrent_of_sameFigures (sameFigures_of_eq rfl rfl rfl)
  lineState _ _ := figuresCurrent_of_sameFigures (sameFigures_of_eq rfl rfl rfl)
  pins _ _ _ := figuresCurrent_of_sameFigures (sameFigures_of_eq rfl rfl rfl)
  tick _ := figuresCurrent_of_sameFigures ⟨⟨rfl, rfl, rfl⟩, rfl, rfl, ⟨rfl, rfl⟩, rfl, ⟨rfl, rfl⟩, rfl⟩
  bookkeeping _ _ _ := figuresCurrent_of_sameFigures (sameFigures_of_eq rfl rfl rfl)

/-- A change of the Supply Monitor that leaves the active window, the supply state with its recovery cap and T is none of the inputs. -/
theorem figuresCurrent_updSupply {s : State} {f : SupplyMonitor → SupplyMonitor}
    (hw : (f s.supply).activeWindow = s.supply.activeWindow) (hst : (f s.supply).state = s.supply.state)
    (hc : (f s.supply).recoveryCap = s.supply.recoveryCap) (ht : (f s.supply).temperature = s.supply.temperature)
    (hs : s.figuresCurrent) : (s.updSupply f).figuresCurrent :=
  figuresCurrent_of_sameFigures (s := s) ⟨⟨rfl, rfl, rfl⟩, rfl, rfl, ⟨rfl, rfl⟩, hw, ⟨hst, hc⟩, ht⟩ hs

/-- Window rules that do not switch leave the figures current (R66, R68). -/
theorem figuresCurrent_windowRules {s : State} {w : WindowIndex} (hno : (s.windowRules w).2 = false) (hs : s.figuresCurrent) :
    (s.windowRules w).1.figuresCurrent := by
  unfold State.windowRules at *
  split at hno
  · cases hno
  · split at hno
    next hw => rw [if_pos hw]; exact figuresCurrent_updSupply rfl rfl rfl rfl hs
    next hw =>
      rw [if_neg hw]
      split at hno
      · cases hno
      next hb =>
        rw [if_neg hb]
        split at hno
        next hc => rw [if_pos hc]; exact hs
        next hc =>
          rw [if_neg hc]
          split at hno
          · cases hno
          next hz => rw [if_neg hz]; exact figuresCurrent_updSupply rfl rfl rfl rfl hs

theorem figuresCurrent_takeVoltage {s : State} (v : Nat) (hs : s.figuresCurrent) : (s.takeVoltage v).figuresCurrent := by
  have hnote : ∀ v, (s.noteVoltage v).figuresCurrent := fun v => figuresCurrent_updSupply rfl rfl rfl rfl hs
  unfold State.takeVoltage
  dsimp only
  split
  · exact figuresCurrent_evaluate _ _
  next hno => exact figuresCurrent_windowRules (Bool.eq_false_iff.mpr hno) (hnote _)

theorem figuresCurrent_endGap (s : State) (cap : CapKind) : (s.endGap cap).figuresCurrent := by
  unfold State.endGap
  dsimp only
  split
  · exact figuresCurrent_evaluate _ _
  · exact figuresCurrent_evaluate _ _

theorem figuresCurrent_takeLine {s : State} (x : Bool) (hs : s.figuresCurrent) : (s.takeLine x).figuresCurrent := by
  unfold State.takeLine
  split
  · exact figuresCurrent_updSupply rfl rfl rfl rfl hs
  · split
    · exact figuresCurrent_updSupply rfl rfl rfl rfl hs
    · unfold State.lineChanged
      split
      · exact figuresCurrent_evaluate _ _
      · exact figuresCurrent_evaluate _ _
      · exact figuresCurrent_endGap _ _
      · exact figuresCurrent_endGap _ _
      · exact figuresCurrent_updSupply rfl rfl rfl rfl hs

theorem figuresCurrent_expireRideLimit {s : State} (hs : s.figuresCurrent) : s.expireRideLimit.figuresCurrent := by
  unfold State.expireRideLimit
  split
  · dsimp only
    split
    · exact figuresCurrent_evaluate _ _
    · exact figuresCurrent_updSupply rfl rfl rfl rfl hs
  · exact hs

theorem figuresCurrent_expireRecovery {s : State} (hs : s.figuresCurrent) : s.expireRecovery.figuresCurrent := by
  unfold State.expireRecovery
  split
  · split
    · exact figuresCurrent_evaluate _ _
    · exact figuresCurrent_updSupply rfl rfl rfl rfl hs
  · exact hs

/-- A temperature sample that leaves the derate leaves every figure (R79). -/
theorem figuresCurrent_takeTemperature {s : State} (x : TempSample) (hs : s.figuresCurrent) :
    (s.takeTemperature x).figuresCurrent := by
  have hnote : (s.noteTemperature x).computeS = s.computeS ∧ (s.noteTemperature x).ledger = s.ledger
      ∧ (s.noteTemperature x).settings = s.settings := by
    unfold State.noteTemperature
    split
    · exact ⟨rfl, rfl, rfl⟩
    · split
      · exact ⟨rfl, rfl, rfl⟩
      · exact ⟨computeS_of_sameFigures (s := s.setTemperature (temperatureTaken x) true) (sameFigures_of_eq (by simp) (by simp) (by simp)),
          by simp [State.setTemperature], by simp [State.setTemperature]⟩
  obtain ⟨hS, hl, hg⟩ := hnote
  rw [takeTemperature_eq]
  split
  next hD =>
    rw [← computeD_noteTemperature] at hD
    unfold State.figuresCurrent at *
    rwa [hS, hD, hl, hg]
  · exact figuresCurrent_evaluate _ _

/-- A change of settings other than the supply settings and the window table is none of the inputs. -/
theorem figuresCurrent_settings {s : State} {g : Settings} (hsup : g.supply = s.settings.supply)
    (hw : g.windows = s.settings.windows) (hd : g.defaultBudget = s.settings.defaultBudget) (hs : s.figuresCurrent) :
    ({ s with settings := g } : State).figuresCurrent :=
  figuresCurrent_of_sameFigures (s := s) ⟨⟨rfl, rfl, rfl⟩, rfl, hsup, ⟨hw, hd⟩, rfl, ⟨rfl, rfl⟩, rfl⟩ hs

theorem figuresCurrent_storePort {s : State} (i : Fin 2) (p : Port) (x : PortSettings) (hs : s.figuresCurrent) :
    (s.storePort i p x).figuresCurrent := by
  by_cases hact : i = s.settings.inForce ∧ s.unit.unitState = .running
  · obtain ⟨rfl, hr⟩ := hact
    have hw : (s.written p x).figuresCurrent := figuresCurrent_settings rfl rfl rfl hs
    rw [storePort_inForce hr]
    split
    · refine figuresCurrent_moves.follow _ _ ?_
      unfold State.storeAdmin
      split
      · exact hw
      · exact applyAdmin_keeps figuresCurrent_moves hr hw
    · exact figuresCurrent_evaluate _ _
  · rw [storePort_aside hact]
    exact figuresCurrent_settings rfl rfl rfl hs

theorem figuresCurrent_reset : State.reset.figuresCurrent := by
  unfold State.figuresCurrent
  decide +kernel

theorem figuresCurrent_commands : KeptByCommands State.figuresCurrent where
  toKeptByMoves := figuresCurrent_moves
  toKeptByQuiet := figuresCurrent_quiet
  voltage _ v := figuresCurrent_takeVoltage v
  settled s hs := by
    unfold State.expireSettle
    split
    · exact figuresCurrent_evaluate _ _
    · exact hs
  line _ x := figuresCurrent_takeLine x
  rideLimit _ := figuresCurrent_expireRideLimit
  recovery _ := figuresCurrent_expireRecovery
  temperature _ x := figuresCurrent_takeTemperature x
  enterRunning _ _ _ _ _ := by
    unfold State.enterRunning
    exact figuresCurrent_evaluate _ _
  storePort _ i p x := figuresCurrent_storePort i p x.take
  storeGrades _ _ := figuresCurrent_settings rfl rfl rfl
  storeTiming s t hs := by
    have hstored := figuresCurrent_settings (g := { s.settings with timing := t.take }) rfl rfl rfl hs
    unfold State.storeTiming
    dsimp only
    split
    · exact hstored
    · exact figuresCurrent_moves.arbiterRun _ hstored
  storeSupply _ _ _ := figuresCurrent_evaluate _ _
  storeDefaultBudget _ _ _ := figuresCurrent_evaluate _ _
  storeWindow _ _ _ _ _ := figuresCurrent_evaluate _ _
  switchProfile s i hs := by
    unfold State.switchProfile
    dsimp only
    split
    · exact figuresCurrent_settings rfl rfl rfl hs
    · exact figuresCurrent_evaluate _ _
  writeAdmin _ _ _ := figuresCurrent_settings rfl rfl rfl
  impose _ _ _ := figuresCurrent_evaluate _ _
  blank _ _ _ _ := figuresCurrent_of_sameFigures (s := State.reset) (sameFigures_of_eq rfl rfl rfl) figuresCurrent_reset

/-- Settles O52: an input of the figures changes only where an evaluation follows. -/
theorem everyStepKeepsTheFiguresCurrent : Obligations.EveryStepKeepsTheFiguresCurrent :=
  fun _ _ hs ht => figuresCurrent_commands.step hs ht

end Sys2Proof.Machine
end

section
/-! PROOFS. The invariants that the port states decide: the commit list (R90), RECYCLE on CEILING ports alone (R2), a HELD unit quiet (R169), and the marks
on ports in SEARCH, CLASSIFY and QUEUED (R134). -/

namespace Sys2Proof.Machine

/-! ### The ports after each move -/

theorem port_left (s : State) (p q : Port) (f : PortRecord → PortRecord) :
    ((s.leaveQueue p).updPort p f).port q = if q = p then f (s.port p) else s.port q := by
  rw [port_updPort, port_leaveQueue, port_leaveQueue]

theorem port_released (s : State) (p q : Port) (f : PortRecord → PortRecord) :
    ((s.release p).updPort p f).port q = if q = p then f ((s.release p).port p) else s.port q := by
  rw [port_updPort]
  split
  · rfl
  next hq => rw [port_release, if_neg hq]

theorem port_disabled (s : State) (p q : Port) (f : PortRecord → PortRecord) :
    (((s.leaveQueue p).release p).updPort p f).port q = if q = p then f ((s.release p).port p) else s.port q := by
  rw [port_released, port_leaveQueue]
  congr 2
  rw [port_release, port_release, port_leaveQueue]

theorem port_unshed (s : State) (p q : Port) (f : PortRecord → PortRecord) :
    ((s.shrinkRecord p).updPort p f).port q = if q = p then f (s.port p) else s.port q := by
  rw [port_updPort, port_shrinkRecord, port_shrinkRecord]

/-- QUEUED as a port enters it (R28). -/
theorem port_enterQueued (s : State) (p q : Port) :
    (s.enterQueued p).port q = if q = p then (s.port p).enter .queued else s.port q := by
  unfold State.enterQueued
  exact (port_joinQueue _ _ _ q).trans (port_updPort s p q _)

/-- A port as the end of its off-time leaves it (R148). -/
theorem port_awaited (s : State) (p q : Port) :
    ((s.updPort p fun r => { r with recyclePhase := some .waitSlot, countdown := .idle }).joinQueue p .reserved).port q =
      if q = p then { s.port p with recyclePhase := some .waitSlot, countdown := .idle } else s.port q :=
  (port_joinQueue _ _ _ q).trans (port_updPort s p q _)

theorem not_committed_of_idle {st : PortState} (h : st.idle = true) : st.committed = false := by
  cases st <;> simp [PortState.idle, PortState.committed] at *

theorem ne_of_idle {st st' : PortState} (h : st.idle = true) (h' : st'.idle = false) : st ≠ st' := by
  rintro rfl
  rw [h] at h'
  cases h'

/-! ### From a property of the shape to every step -/

/-- A property of the shape that moves, re-placed entries, evaluations and entry to RUNNING keep, and the reset values meet. -/
theorem keptByShape_of_shape {P : State → Prop} (hshape : ∀ s t : State, s.SameShape t → P s → P t) (hm : KeptByMoves P)
    (hreprice : ∀ (s : State) (p : Port) (k : Priority), P s → P (s.repriceEntry p k))
    (hevaluate : ∀ (s : State) (k : ShedCause), P s → P (s.evaluate k))
    (hwake : ∀ (s : State) (u : StartUp), s.unit.unitState = .held → u.unitState = .running → P s → P { s with unit := u })
    (hblank : ∀ (u : StartUp) (free : Nat) (pending : List Instr), u.unitState = .held → P (State.blank u free pending)) :
    KeptByShape P where
  toKeptByMoves := hm
  toKeptByQuiet := keptByQuiet_of_standing fun s t h => hshape s t h.toSameShape
  supply := supply_of_standing fun s t h => hshape s t h.toSameShape
  imposedCap := imposedCap_of_standing fun s t h => hshape s t h.toSameShape
  settings _ _ := hshape _ _ (sameShape_of_eq rfl rfl rfl rfl rfl)
  reprice := hreprice
  evaluate := hevaluate
  wake := hwake
  blank := hblank

/-! ### The commit list -/

section
variable {s t : State} {p : Port}

theorem commitExact_same (hl : t.ledger.commitList = s.ledger.commitList)
    (hp : ∀ q, (t.port q).state.committed = (s.port q).state.committed) (hs : s.commitExact) : t.commitExact := by
  unfold State.commitExact at *
  simpa only [hl, hp] using hs

/-- A port that becomes committed joins at the tail (R91). -/
theorem commitExact_append (hl : t.ledger.commitList = s.ledger.commitList ++ [p]) (hold : (s.port p).state.committed = false)
    (hnew : (t.port p).state.committed = true) (hp : ∀ q, q ≠ p → t.port q = s.port q) (hs : s.commitExact) : t.commitExact := by
  obtain ⟨hnd, hmem⟩ := hs
  have hout : p ∉ s.ledger.commitList := by simp [hmem, hold]
  refine ⟨by rw [hl]; simpa using hnd.concat hout, fun q => ?_⟩
  rw [hl, List.mem_append, List.mem_singleton, hmem]
  by_cases hq : q = p
  · simp [hq, hnew]
  · simp [hq, hp q hq]

/-- A port that is committed no longer leaves the list (R92). -/
theorem commitExact_filter (hl : t.ledger.commitList = s.ledger.commitList.filter (· != p))
    (hnew : (t.port p).state.committed = false) (hp : ∀ q, q ≠ p → t.port q = s.port q) (hs : s.commitExact) : t.commitExact := by
  obtain ⟨hnd, hmem⟩ := hs
  refine ⟨by rw [hl]; exact hnd.filter _, fun q => ?_⟩
  rw [hl, List.mem_filter, hmem]
  by_cases hq : q = p
  · simp [hq, hnew]
  · simp [hq, hp q hq]

theorem commitExact_of_sameShape (h : s.SameShape t) (hs : s.commitExact) : t.commitExact :=
  commitExact_same h.commitList (fun q => by rw [(h.ports q).1]) hs

end

/-- A change of one port's record alone, between states that agree on being committed. -/
theorem commitExact_onePort {s t : State} {p : Port} (hl : t.ledger.commitList = s.ledger.commitList)
    (hnew : (t.port p).state.committed = (s.port p).state.committed) (hp : ∀ q, q ≠ p → t.port q = s.port q)
    (hs : s.commitExact) : t.commitExact :=
  commitExact_same hl (fun q => by
    by_cases hq : q = p
    · rw [hq, hnew]
    · rw [hp q hq]) hs

theorem commitExact_grantQueued (s : State) (p : Port) (hs : s.commitExact) : (s.grantQueued p).commitExact := by
  by_cases hst : (s.port p).state = .queued
  · refine commitExact_append (p := p) ?_ (by rw [hst]; rfl) ?_ (fun q hq => ?_) hs
    · rw [commitList_grantQueued, if_pos hst]
    · rw [port_grantQueued, if_pos ⟨rfl, hst⟩]
      rfl
    · rw [port_grantQueued, if_neg (fun h => hq h.1)]
  · refine commitExact_same ?_ (fun q => ?_) hs
    · rw [commitList_grantQueued, if_neg hst]
    · rw [port_grantQueued, if_neg (fun h => hst h.2)]

theorem commitExact_grantReserved (s : State) (p : Port) (hs : s.commitExact) : (s.grantReserved p).commitExact := by
  refine commitExact_same (by simp) (fun q => ?_) hs
  rw [port_grantReserved]
  split
  next h => obtain ⟨rfl, hst, -⟩ := h; rw [hst]; rfl
  · rfl

/-- A pop moves listed SHED ports to SEARCH, and neither state is committed (R133). -/
theorem committed_popRecord (s : State) (q : Port) : (s.popRecord.port q).state.committed = (s.port q).state.committed := by
  unfold State.popRecord
  split
  · rfl
  next r below _ =>
    rw [port_post]
    refine foldl_keeps (P := fun t : State => (t.port q).state.committed = (s.port q).state.committed)
      (fun t e ht => ?_) r.entries _ rfl
    rw [port_restorePort]
    split
    next h => obtain ⟨rfl, hst⟩ := h; rw [← ht, hst]; rfl
    · exact ht

theorem commitExact_evaluation : KeptByEvaluation State.commitExact where
  queued s e _ _ _ := commitExact_grantQueued s e.port
  reserved s e _ _ := commitExact_grantReserved s e.port
  passes _ _ := commitExact_same rfl fun _ => rfl
  pop s _ := commitExact_same (by simp) (committed_popRecord s)
  figures _ := commitExact_same rfl fun _ => rfl
  shed s p _ hs := by
    refine commitExact_filter (p := p) ?_ ?_ (fun q hq => ?_) hs
    · simp [State.shedPort, commitList_release]
    · rw [port_shedPort, if_pos rfl]
      rfl
    · rw [port_shedPort, if_neg hq]
  batch s k b _ := by
    refine commitExact_same ?_ fun q => by rw [port_makeBatch]
    unfold State.makeBatch
    dsimp only
    split <;> simp

theorem commitExact_moves : KeptByMoves State.commitExact where
  toKeptByRunning := commitExact_evaluation.toKeptByRuns.running
  settle s p f hi _ hf := commitExact_onePort (p := p) rfl
    (by rw [port_updPort_self, not_committed_of_idle hi, not_committed_of_idle hf.idle]) fun q hq => port_updPort_ne s f hq
  leave s p f hst hf := commitExact_onePort (p := p) (by simp)
    (by rw [port_left, if_pos rfl, hst, not_committed_of_idle hf.idle]; rfl) fun q hq => by rw [port_left, if_neg hq]
  release s p f _ hf := commitExact_filter (p := p) (by simp [commitList_release])
    (by rw [port_released, if_pos rfl, not_committed_of_idle hf.idle]) fun q hq => by rw [port_released, if_neg hq]
  disable s p f _ hf := commitExact_filter (p := p) (by simp [commitList_release])
    (by rw [port_disabled, if_pos rfl, not_committed_of_idle hf.idle]) fun q hq => by rw [port_disabled, if_neg hq]
  unshed s p f hst hf := commitExact_onePort (p := p) rfl
    (by rw [port_unshed, if_pos rfl, hst, not_committed_of_idle hf.idle]; rfl) fun q hq => by rw [port_unshed, if_neg hq]
  join s p hst := commitExact_onePort (p := p) (by simp [State.enterQueued]) (by rw [port_enterQueued, if_pos rfl, hst]; rfl)
    fun q hq => by rw [port_enterQueued, if_neg hq]
  ramp s p hst := commitExact_onePort (p := p) (by simp) (by rw [port_enterOn, if_pos rfl, hst]; rfl)
    fun q hq => by rw [port_enterOn, if_neg hq]
  recycle s c hst := commitExact_onePort (p := ceilingPort c) (by simp [State.enterRecycle])
    (by rw [port_enterRecycle, if_pos rfl, hst]; rfl) fun q hq => by rw [port_enterRecycle, if_neg hq]
  await s c _ _ := commitExact_onePort (p := ceilingPort c) (by simp) (by rw [port_awaited, if_pos rfl])
    fun q hq => by rw [port_awaited, if_neg hq]

theorem port_blank (u : StartUp) (free : Nat) (pending : List Instr) (p : Port) :
    (State.blank u free pending).port p = PortRecord.atReset := by
  simp [State.port, State.blank, Vector.get_eq_getElem]

theorem commitExact_blank (u : StartUp) (free : Nat) (pending : List Instr) : (State.blank u free pending).commitExact := by
  refine ⟨List.nodup_nil, fun p => ?_⟩
  rw [port_blank]
  simp [State.blank, Ledger.atReset, PortRecord.atReset, PortState.committed]

theorem commitExact_shape : KeptByShape State.commitExact :=
  keptByShape_of_shape (fun _ _ => commitExact_of_sameShape) commitExact_moves
    (fun _ _ _ => commitExact_same rfl fun _ => rfl) (evaluate_keeps commitExact_evaluation)
    (fun _ _ _ _ => commitExact_same rfl fun _ => rfl) fun u free pending _ => commitExact_blank u free pending

/-! ### RECYCLE on CEILING ports alone -/

theorem recycleOnCeiling_of {s t : State} (h : ∀ q, (t.port q).state = .recycle → (s.port q).state = .recycle ∨ 48 ≤ q.val)
    (hs : s.recycleOnCeiling) : t.recycleOnCeiling := fun q hq => (h q hq).elim (hs q) id

/-- One port's record changes, to a state other than RECYCLE. -/
theorem recycleOnCeiling_onePort {s t : State} {p : Port} (hnew : (t.port p).state ≠ .recycle)
    (hp : ∀ q, q ≠ p → t.port q = s.port q) (hs : s.recycleOnCeiling) : t.recycleOnCeiling :=
  recycleOnCeiling_of (fun q hst => by
    by_cases hq : q = p
    · exact absurd (hq ▸ hst) hnew
    · exact .inl (hp q hq ▸ hst)) hs

theorem recycleOnCeiling_evaluation : KeptByEvaluation State.recycleOnCeiling where
  queued s e _ _ _ := recycleOnCeiling_of fun q hq => by
    rw [port_grantQueued] at hq
    split at hq
    · cases hq
    · exact .inl hq
  reserved s e _ _ := recycleOnCeiling_of fun q hq => by
    rw [port_grantReserved] at hq
    split at hq
    · cases hq
    · exact .inl hq
  passes _ _ := id
  pop s _ hs := by
    unfold State.popRecord
    split
    · exact hs
    next r below _ =>
      refine recycleOnCeiling_of (s := r.entries.foldl State.restorePort { s with stack := below }) (fun q hq => ?_)
        (foldl_keeps (P := State.recycleOnCeiling) (fun t e => recycleOnCeiling_of fun q hq => ?_) r.entries _ hs)
      · rw [port_post] at hq
        exact .inl hq
      · rw [port_restorePort] at hq
        split at hq
        · cases hq
        · exact .inl hq
  figures _ := id
  shed s p _ := recycleOnCeiling_onePort (p := p) (by rw [port_shedPort, if_pos rfl]; nofun)
    fun q hq => by rw [port_shedPort, if_neg hq]
  batch s k b _ := recycleOnCeiling_of fun q hq => by
    rw [port_makeBatch] at hq
    exact .inl hq

theorem recycleOnCeiling_moves : KeptByMoves State.recycleOnCeiling where
  toKeptByRunning := recycleOnCeiling_evaluation.toKeptByRuns.running
  settle s p f _ _ hf := recycleOnCeiling_onePort (p := p) (by rw [port_updPort_self]; exact ne_of_idle hf.idle rfl)
    fun q hq => port_updPort_ne s f hq
  leave s p f _ hf := recycleOnCeiling_onePort (p := p) (by rw [port_left, if_pos rfl]; exact ne_of_idle hf.idle rfl)
    fun q hq => by rw [port_left, if_neg hq]
  release s p f _ hf := recycleOnCeiling_onePort (p := p) (by rw [port_released, if_pos rfl]; exact ne_of_idle hf.idle rfl)
    fun q hq => by rw [port_released, if_neg hq]
  disable s p f _ hf := recycleOnCeiling_onePort (p := p) (by rw [port_disabled, if_pos rfl]; exact ne_of_idle hf.idle rfl)
    fun q hq => by rw [port_disabled, if_neg hq]
  unshed s p f _ hf := recycleOnCeiling_onePort (p := p) (by rw [port_unshed, if_pos rfl]; exact ne_of_idle hf.idle rfl)
    fun q hq => by rw [port_unshed, if_neg hq]
  join s p _ := recycleOnCeiling_onePort (p := p) (by rw [port_enterQueued, if_pos rfl]; nofun)
    fun q hq => by rw [port_enterQueued, if_neg hq]
  ramp s p _ := recycleOnCeiling_onePort (p := p) (by rw [port_enterOn, if_pos rfl]; nofun)
    fun q hq => by rw [port_enterOn, if_neg hq]
  recycle s c _ := recycleOnCeiling_of fun q hst => by
    rw [port_enterRecycle] at hst
    split at hst
    next hq => exact .inr (hq ▸ Nat.le_add_left 48 c.val)
    · exact .inl hst
  await s c hst _ := recycleOnCeiling_of fun q hq => by
    rw [port_awaited] at hq
    split at hq
    next h => exact .inl (h ▸ hst)
    · exact .inl hq

theorem recycleOnCeiling_shape : KeptByShape State.recycleOnCeiling :=
  keptByShape_of_shape (fun _ _ h => recycleOnCeiling_of fun q hq => .inl ((h.ports q).1 ▸ hq)) recycleOnCeiling_moves
    (fun _ _ _ => id) (evaluate_keeps recycleOnCeiling_evaluation) (fun _ _ _ _ => id) fun u free pending _ p hp => by
      rw [port_blank] at hp
      cases hp

/-- Settles O53: a port joins the list with its grant and leaves it with its release, and RECYCLE is entered by a CEILING port. -/
theorem everyStepKeepsTheCommitList : Obligations.EveryStepKeepsTheCommitList :=
  fun _ _ ht => ⟨fun hs => commitExact_shape.step hs ht, fun hs => recycleOnCeiling_shape.step hs ht⟩

/-! ### A HELD unit quiet -/

theorem heldQuiet_of_running {t : State} (h : t.unit.unitState = .running) : t.heldQuiet := by
  intro hheld
  rw [h] at hheld
  cases hheld

/-- A quiet unit with a port out of DORMANT is in RUNNING. -/
theorem running_of_not_dormant {s : State} {p : Port} (hp : (s.port p).state ≠ .dormant) (hs : s.heldQuiet) :
    s.unit.unitState = .running := by
  cases hu : s.unit.unitState with
  | held => exact absurd ((hs hu).1 p) hp
  | running => rfl

theorem heldQuiet_of_sameShape {s t : State} (h : s.SameShape t) (hs : s.heldQuiet) : t.heldQuiet := by
  intro hu
  obtain ⟨hports, hlist, hqueue, hstack⟩ := hs (h.unitState ▸ hu)
  refine ⟨fun p => (h.ports p).1.trans (hports p), h.commitList.trans hlist, h.queue.trans hqueue, ?_⟩
  have := h.stack
  rw [hstack] at this
  simpa using this

/-- A unit in RUNNING is quiet after whatever leaves the host's part alone. -/
theorem heldQuiet_of_not_dormant {s t : State} {p : Port} (hp : (s.port p).state ≠ .dormant) (h : s.sameHost t) (hs : s.heldQuiet) :
    t.heldQuiet := heldQuiet_of_running ((sameHost_unitState h).trans (running_of_not_dormant hp hs))

/-- A quiet HELD unit has nothing to grant: a grant leaves it quiet. -/
theorem heldQuiet_grant {s t : State} {p : Port} (h : s.sameHost t) (hq : t.queue = (s.leaveQueue p).queue)
    (hk : t.stack = s.stack)
    (hstay : (s.port p).state = .dormant → t.ledger.commitList = s.ledger.commitList ∧ ∀ q, t.port q = s.port q)
    (hs : s.heldQuiet) : t.heldQuiet := by
  intro hu
  obtain ⟨hports, hlist, hqueue, hstack⟩ := hs ((sameHost_unitState h).symm.trans hu)
  obtain ⟨hl, hp⟩ := hstay (hports p)
  refine ⟨fun q => (hp q).symm ▸ hports q, hl.trans hlist, ?_, hk.trans hstack⟩
  rw [hq]
  simp [State.leaveQueue, State.entryOf, hqueue]

theorem queue_grantQueued (s : State) (p : Port) : (s.grantQueued p).queue = (s.leaveQueue p).queue := by
  unfold State.grantQueued
  dsimp only
  split <;> simp

theorem queue_grantReserved (s : State) (p : Port) : (s.grantReserved p).queue = (s.leaveQueue p).queue := by
  unfold State.grantReserved
  dsimp only
  split <;> simp

theorem stack_grantQueued (s : State) (p : Port) : (s.grantQueued p).stack = s.stack := by
  unfold State.grantQueued
  dsimp only
  split <;> simp

theorem stack_grantReserved (s : State) (p : Port) : (s.grantReserved p).stack = s.stack := by
  unfold State.grantReserved
  dsimp only
  split <;> simp

theorem heldQuiet_runs : KeptByRuns State.heldQuiet where
  queued s e _ _ _ := heldQuiet_grant (sameHost_grantQueued e.port s) (queue_grantQueued s e.port) (stack_grantQueued s e.port)
    fun hst => ⟨by rw [commitList_grantQueued, hst]; rfl, fun q => by
      rw [port_grantQueued, if_neg]
      rintro ⟨-, h⟩
      rw [hst] at h
      cases h⟩
  reserved s e _ _ := heldQuiet_grant (sameHost_grantReserved e.port s) (queue_grantReserved s e.port)
    (stack_grantReserved s e.port) fun hst => ⟨by simp, fun q => by
      rw [port_grantReserved, if_neg]
      rintro ⟨-, h, -⟩
      rw [hst] at h
      cases h⟩
  passes s l hs hu := by
    obtain ⟨hports, hlist, hqueue, hstack⟩ := hs hu
    exact ⟨hports, hlist, by simp [State.raisePassCounts, hqueue], hstack⟩
  pop s hp hs hu := by
    obtain ⟨-, -, -, hstack⟩ := hs ((sameHost_unitState (sameHost_popRecord s)).symm.trans hu)
    simp [State.restorePasses, hstack] at hp

theorem heldQuiet_moves : KeptByMoves State.heldQuiet where
  toKeptByRunning := heldQuiet_runs.running
  settle s p f _ hd _ hs := by
    by_cases hp : (s.port p).state = .dormant
    · exact heldQuiet_of_running (hd hp)
    · exact heldQuiet_of_not_dormant hp (sameHost_updPort p f s) hs
  leave s p f hst _ := heldQuiet_of_not_dormant (p := p) (by rw [hst]; nofun) (by simp [State.sameHost])
  release s p f hst _ := heldQuiet_of_not_dormant (p := p) (by obtain h | h := hst <;> simp [h]) (by simp [State.sameHost])
  disable s p f hst _ := heldQuiet_of_not_dormant (p := p) (by rintro h; rw [h] at hst; cases hst) (by simp [State.sameHost])
  unshed s p f hst _ := heldQuiet_of_not_dormant (p := p) (by rw [hst]; nofun) (by simp [State.sameHost])
  join s p hst := heldQuiet_of_not_dormant (p := p) (by rw [hst]; nofun) (sameHost_enterQueued p s)
  ramp s p hst := heldQuiet_of_not_dormant (p := p) (by rw [hst]; nofun) (sameHost_enterOn p s)
  recycle s c hst := heldQuiet_of_not_dormant (p := ceilingPort c) (by rw [hst]; nofun) (sameHost_enterRecycle _ s)
  await s c hst _ := heldQuiet_of_not_dormant (p := ceilingPort c) (by rw [hst]; nofun) (by simp [State.sameHost])

/-- An evaluation of a quiet HELD unit has nothing to shed (R101). -/
theorem heldQuiet_evaluate (s : State) (k : ShedCause) (hs : s.heldQuiet) : (s.evaluate k).heldQuiet := by
  cases hu : s.unit.unitState with
  | running => exact heldQuiet_of_running ((sameHost_unitState (sameHost_evaluate k s)).trans hu)
  | held =>
    have hempty : s.recompute.committed = 0 := by
      have hlist : s.recompute.ledger.commitList = [] := (hs hu).2.1
      simp [State.committed, hlist]
    refine arbiterRun_keeps heldQuiet_runs _ ?_
    unfold State.shedOrRestore
    rw [hempty, if_neg (Nat.not_lt_zero _)]
    exact restoreTest_keeps heldQuiet_runs _ (heldQuiet_of_sameShape (sameShape_of_eq rfl rfl rfl rfl rfl) hs)

theorem heldQuiet_shape : KeptByShape State.heldQuiet :=
  keptByShape_of_shape (fun _ _ => heldQuiet_of_sameShape) heldQuiet_moves
    (fun s p k hs hu => by
      obtain ⟨hports, hlist, hqueue, hstack⟩ := hs hu
      exact ⟨hports, hlist, by simp [State.repriceEntry, reorder, hqueue], hstack⟩)
    heldQuiet_evaluate (fun _ _ _ hr _ => heldQuiet_of_running hr)
    fun u free pending _ _ => ⟨fun p => by rw [port_blank]; rfl, rfl, rfl, rfl⟩

/-- Settles O55: a quiet unit in HELD has no port that a move finds in its state. -/
theorem everyStepKeepsHeldQuiet : Obligations.EveryStepKeepsHeldQuiet := fun _ _ hs ht => heldQuiet_shape.step hs ht

/-! ### An evaluation by its candidates -/

/-- What a property needs to be kept by every evaluation when a shed finds its port committed, or shed already, and of a priority other than 0. -/
structure KeptByCandidates (P : State → Prop) : Prop extends KeptByRuns P where
  figures : ∀ (s : State), P s → P s.recompute
  shed : ∀ (s : State) (p : Port), s.ledger.available < s.committed → s.priorityOf p ≠ 0 →
    (s.port p).state.committed = true ∨ (s.port p).state = .shed → P s → P (s.shedPort p)
  batch : ∀ (s : State) (cause : ShedCause) (b : List ShedEntry), b ≠ [] → P s → P (s.makeBatch cause b)

/-- A candidate is a committed port of priority 1, 2 or 3 (R125). -/
theorem mem_candidates {s : State} {p : Port} :
    p ∈ s.candidates ↔ p ∈ s.ledger.commitList ∧ s.priorityOf p ≠ 0 ∧ (s.port p).state.committed = true := by
  have hk : ∀ k : Priority, (k = 3 ∨ k = 2 ∨ k = 1) ↔ k ≠ 0 := by decide
  simp only [State.candidates, State.candidatesAt, List.mem_append, List.mem_filter, List.mem_reverse, Bool.and_eq_true,
    beq_iff_eq, ← hk]
  tauto

/-- The shed step keeps what the sheds of its candidates keep (R126). -/
theorem shedStep_keeps_candidates {P : State → Prop} (h : KeptByCandidates P) (ps : List Port) :
    ∀ (b : List ShedEntry) (s : State), (∀ p ∈ ps, s.priorityOf p ≠ 0 ∧ ((s.port p).state.committed = true ∨ (s.port p).state = .shed)) →
      P s → P (shedStep ps b s).2 := by
  induction ps with
  | nil => intro b s _ hs; exact hs
  | cons p ps ih =>
    intro b s hps hs
    unfold shedStep
    split
    · exact hs
    next hc =>
      obtain ⟨hpri, hst⟩ := hps p List.mem_cons_self
      refine ih _ _ (fun q hq => ?_) (h.shed s p (Nat.lt_of_not_le hc) hpri hst hs)
      obtain ⟨hqpri, hqst⟩ := hps q (List.mem_cons_of_mem p hq)
      refine ⟨by rwa [priorityOf_congr (sameHost_shedPort p s).1], ?_⟩
      rw [port_shedPort]
      split
      · exact .inr rfl
      · exact hqst

theorem evaluate_keeps_candidates {P : State → Prop} (h : KeptByCandidates P) (s : State) (k : ShedCause) (hs : P s) :
    P (s.evaluate k) := by
  refine arbiterRun_keeps h.toKeptByRuns _ ?_
  have hfigures := h.figures s hs
  unfold State.shedOrRestore
  split
  · have hshed : P (shedStep s.recompute.candidates [] s.recompute).2 := by
      refine shedStep_keeps_candidates h _ _ _ (fun p hp => ?_) hfigures
      obtain ⟨-, hpri, hst⟩ := mem_candidates.mp hp
      exact ⟨hpri, .inl hst⟩
    dsimp only
    split
    · exact hshed
    next hne => exact h.batch _ _ _ (by simpa using hne) hshed
  · exact restoreTest_keeps h.toKeptByRuns _ hfigures

/-! ### The marks -/

theorem bearsMark_iff {st : PortState} : st.bearsMark = true ↔ st = .search ∨ st = .classify ∨ st = .queued := by
  cases st <;> simp [PortState.bearsMark]

theorem marksPlaced_iff {s : State} : s.marksPlaced ↔ ∀ p, (s.port p).mark.isSome = true → (s.port p).state.bearsMark = true := by
  simp only [State.marksPlaced, bearsMark_iff]

/-- A mark that a port bears now either stands in a state that may bear it, or stood before in a state that leads to one. -/
theorem marksPlaced_of {s t : State} (h : ∀ q, (t.port q).mark.isSome = true → (t.port q).state.bearsMark = true
      ∨ ((s.port q).mark.isSome = true ∧ ((s.port q).state.bearsMark = true → (t.port q).state.bearsMark = true)))
    (hs : s.marksPlaced) : t.marksPlaced := by
  rw [marksPlaced_iff] at *
  intro q hq
  obtain hst | ⟨hm, hst⟩ := h q hq
  · exact hst
  · exact hst (hs q hm)

/-- One port's record changes so. -/
theorem marksPlaced_onePort {s t : State} {p : Port} (hnew : (t.port p).mark.isSome = true → (t.port p).state.bearsMark = true
      ∨ ((s.port p).mark.isSome = true ∧ ((s.port p).state.bearsMark = true → (t.port p).state.bearsMark = true)))
    (hp : ∀ q, q ≠ p → t.port q = s.port q) (hs : s.marksPlaced) : t.marksPlaced :=
  marksPlaced_of (fun q hq => by
    by_cases h : q = p
    · subst h; exact hnew hq
    · rw [hp q h] at hq ⊢; exact .inr ⟨hq, id⟩) hs

theorem marksPlaced_same {s t : State} (h : ∀ q, t.port q = s.port q) (hs : s.marksPlaced) : t.marksPlaced := by
  unfold State.marksPlaced at *
  simpa only [h] using hs

theorem marksPlaced_candidates : KeptByCandidates State.marksPlaced where
  queued s e _ _ _ := marksPlaced_of fun q hq => by
    rw [port_grantQueued] at hq ⊢
    split at hq
    · cases hq
    next h => rw [if_neg h]; exact .inr ⟨hq, id⟩
  reserved s e _ _ := marksPlaced_of fun q hq => by
    rw [port_grantReserved] at hq ⊢
    split at hq
    next h =>
      refine .inr ⟨h.1 ▸ hq, fun hb => ?_⟩
      rw [h.1, h.2.1] at hb
      cases hb
    next h => rw [if_neg h]; exact .inr ⟨hq, id⟩
  passes _ _ := id
  pop s _ hs := by
    unfold State.popRecord
    split
    · exact hs
    next r below _ =>
      refine marksPlaced_same (fun q => port_post _ _ q) (foldl_keeps (P := State.marksPlaced) (fun t e => ?_) r.entries _ hs)
      refine marksPlaced_of fun q hq => ?_
      rw [port_restorePort] at hq ⊢
      split at hq
      next h => rw [if_pos h]; exact .inl rfl
      next h => rw [if_neg h]; exact .inr ⟨hq, id⟩
  figures _ := id
  shed s p _ _ hst := marksPlaced_onePort (p := p) (fun hm => by
      rw [port_shedPort, if_pos rfl] at hm
      refine .inr ⟨hm, fun hb => ?_⟩
      rw [bearsMark_iff] at hb
      obtain hb | hb | hb := hb <;> simp [hb, PortState.committed] at hst)
    fun q hq => by rw [port_shedPort, if_neg hq]
  batch s k b _ _ := marksPlaced_iff.mpr fun q hq => by
    rw [port_makeBatch] at hq
    cases hq

theorem marksPlaced_moves : KeptByMoves State.marksPlaced where
  toKeptByRunning := marksPlaced_candidates.toKeptByRuns.running
  settle s p f _ _ hf := marksPlaced_onePort (p := p) (by rw [port_updPort_self]; exact fun hm => .inr (hf.mark hm))
    fun q hq => port_updPort_ne s f hq
  leave s p f _ hf := marksPlaced_onePort (p := p) (by rw [port_left, if_pos rfl]; exact fun hm => .inr (hf.mark hm))
    fun q hq => by rw [port_left, if_neg hq]
  release s p f _ hf := marksPlaced_onePort (p := p) (by rw [port_released, if_pos rfl]; exact fun hm => .inr (hf.mark hm))
    fun q hq => by rw [port_released, if_neg hq]
  disable s p f _ hf := marksPlaced_onePort (p := p) (by rw [port_disabled, if_pos rfl]; exact fun hm => .inr (hf.mark hm))
    fun q hq => by rw [port_disabled, if_neg hq]
  unshed s p f _ hf := marksPlaced_onePort (p := p) (by rw [port_unshed, if_pos rfl]; exact fun hm => .inr (hf.mark hm))
    fun q hq => by rw [port_unshed, if_neg hq]
  join s p _ := marksPlaced_onePort (p := p) (by rw [port_enterQueued, if_pos rfl]; exact fun _ => .inl rfl)
    fun q hq => by rw [port_enterQueued, if_neg hq]
  ramp s p hst := marksPlaced_onePort (p := p)
    (by rw [port_enterOn, if_pos rfl, hst]; exact fun hm => .inr ⟨hm, nofun⟩) fun q hq => by rw [port_enterOn, if_neg hq]
  recycle s c hst := marksPlaced_onePort (p := ceilingPort c)
    (by rw [port_enterRecycle, if_pos rfl, hst]; exact fun hm => .inr ⟨hm, nofun⟩) fun q hq => by rw [port_enterRecycle, if_neg hq]
  await s c _ _ := marksPlaced_onePort (p := ceilingPort c)
    (by rw [port_awaited, if_pos rfl]; exact fun hm => .inr ⟨hm, id⟩) fun q hq => by rw [port_awaited, if_neg hq]

theorem marksPlaced_of_sameShape {s t : State} (h : s.SameShape t) : s.marksPlaced → t.marksPlaced :=
  marksPlaced_of fun q hq => by
    obtain ⟨hst, -, -, hm⟩ := h.ports q
    exact .inr ⟨hm ▸ hq, fun hb => hst.symm ▸ hb⟩

theorem marksPlaced_shape : KeptByShape State.marksPlaced :=
  keptByShape_of_shape (fun _ _ => marksPlaced_of_sameShape) marksPlaced_moves (fun _ _ _ => id)
    (evaluate_keeps_candidates marksPlaced_candidates) (fun _ _ _ _ => id) fun u free pending _ => marksPlaced_iff.mpr fun p hp => by
      rw [port_blank] at hp
      cases hp

/-- Settles O58: a mark is given with SEARCH, and a move out of the states that may bear one takes it away. -/
theorem everyStepKeepsTheMarksPlaced : Obligations.EveryStepKeepsTheMarksPlaced := fun _ _ hs ht => marksPlaced_shape.step hs ht

end Sys2Proof.Machine
end

section
/-! PROOFS. The grant queue's invariants: the queue order and the join ranks (R106, R107), one entry for each waiting port (R105), its priority in force
(R110), and the slots (R111). -/

namespace Sys2Proof.Machine

/-! ### The queue order of a list of entries -/

/-- Numbers run from 1 to their number exactly when they are distinct and none is above it. -/
theorem perm_range'_iff {l : List Nat} {n : Nat} :
    l.Perm (List.range' 1 n) ↔ l.Nodup ∧ l.length = n ∧ ∀ x ∈ l, 1 ≤ x ∧ x ≤ n := by
  constructor
  · intro h
    refine ⟨h.nodup_iff.mpr (List.nodup_range' ..), by simpa using h.length_eq, fun x hx => ?_⟩
    have := h.mem_iff.mp hx
    rw [List.mem_range'_1] at this
    omega
  · rintro ⟨hnd, hlen, hmem⟩
    refine (List.subperm_of_subset hnd fun x hx => ?_).perm_of_length_le (by simp [hlen])
    have := hmem x hx
    rw [List.mem_range'_1]
    omega

/-- Entries in the queue order with distinct ports and join ranks from 1 without a gap (R106, R107). -/
structure InQueueOrder (q : List QueueEntry) : Prop where
  ports : (q.map (·.port)).Nodup
  sorted : q.Pairwise fun a b => a.ahead b = true
  ranks : (q.map (·.joinRank)).Nodup
  bounds : ∀ e ∈ q, 1 ≤ e.joinRank ∧ e.joinRank ≤ q.length

theorem queueOrdered_iff {s : State} : s.queueOrdered ↔ InQueueOrder s.queue := by
  unfold State.queueOrdered
  rw [perm_range'_iff]
  simp only [List.mem_map, List.length_map, true_and, forall_exists_index, and_imp, forall_apply_eq_imp_iff₂]
  exact ⟨fun ⟨hp, hs, hr, hb⟩ => ⟨hp, hs, hr, hb⟩, fun h => ⟨h.ports, h.sorted, h.ranks, h.bounds⟩⟩

/-- Placing an entry of a new join rank keeps the order (R107). -/
theorem placeEntry_sorted {e : QueueEntry} {q : List QueueEntry} (hq : q.Pairwise fun a b => a.ahead b = true)
    (hr : ∀ x ∈ q, e.joinRank ≠ x.joinRank) : (placeEntry e q).Pairwise fun a b => a.ahead b = true := by
  induction q with
  | nil => simp [placeEntry]
  | cons x xs ih =>
    obtain ⟨hx, hxs⟩ := List.pairwise_cons.mp hq
    unfold placeEntry
    split
    next hex =>
      refine List.pairwise_cons.mpr ⟨fun y hy => ?_, hq⟩
      obtain rfl | hy := List.mem_cons.mp hy
      · exact hex
      · exact ahead_trans hex (hx y hy)
    next hex =>
      refine List.pairwise_cons.mpr ⟨fun y hy => ?_, ih hxs fun y hy => hr y (List.mem_cons_of_mem x hy)⟩
      obtain rfl | hy := (mem_placeEntry ..).mp hy
      · exact ahead_total (hr x List.mem_cons_self) (by simpa using hex)
      · exact hx y hy

/-- Reordering entries of distinct join ranks puts them in order (R110). -/
theorem reorder_sorted {q : List QueueEntry} (hr : (q.map (·.joinRank)).Nodup) :
    (reorder q).Pairwise fun a b => a.ahead b = true := by
  induction q with
  | nil => exact List.Pairwise.nil
  | cons x xs ih =>
    obtain ⟨hx, hxs⟩ := List.nodup_cons.mp hr
    refine placeEntry_sorted (ih hxs) fun y hy e => hx ?_
    exact List.mem_map.mpr ⟨y, (mem_reorder y xs).mp hy, e.symm⟩

/-- Changing entries' priorities or kinds, and putting every entry in its place again, keeps the order (R110). -/
theorem InQueueOrder.reorder_map {q : List QueueEntry} (h : InQueueOrder q) {f : QueueEntry → QueueEntry}
    (hp : ∀ e, (f e).port = e.port) (hr : ∀ e, (f e).joinRank = e.joinRank) : InQueueOrder (reorder (q.map f)) := by
  have hports : (q.map f).map (·.port) = q.map (·.port) := by simp [Function.comp_def, hp]
  have hranks : (q.map f).map (·.joinRank) = q.map (·.joinRank) := by simp [Function.comp_def, hr]
  refine ⟨?_, reorder_sorted (by rw [hranks]; exact h.ranks), ?_, fun e he => ?_⟩
  · rw [((reorder_perm _).map _).nodup_iff, hports]
    exact h.ports
  · rw [((reorder_perm _).map _).nodup_iff, hranks]
    exact h.ranks
  · rw [mem_reorder, List.mem_map] at he
    obtain ⟨x, hx, rfl⟩ := he
    rw [hr]
    simpa using h.bounds x hx

/-- Which of two entries is ahead is decided by their kinds, priorities and the order of their join ranks (R107). -/
theorem ahead_congr {a b a' b' : QueueEntry} (ha : a'.kind = a.kind ∧ a'.priority = a.priority)
    (hb : b'.kind = b.kind ∧ b'.priority = b.priority) (hr : a'.joinRank < b'.joinRank ↔ a.joinRank < b.joinRank) :
    a'.ahead b' = a.ahead b := by
  obtain ⟨hak, hap⟩ := ha
  obtain ⟨hbk, hbp⟩ := hb
  rw [Bool.eq_iff_iff, ahead_iff, ahead_iff, hak, hap, hbk, hbp, hr]

/-! ### The join ranks after an entry has left -/

/-- An entry whose rank falls by one because an older entry has left (R109). -/
def QueueEntry.closeUp (r : Nat) (x : QueueEntry) : QueueEntry :=
  if r < x.joinRank then { x with joinRank := x.joinRank - 1 } else x

theorem closeUp_port (r : Nat) (x : QueueEntry) : (x.closeUp r).port = x.port := by
  unfold QueueEntry.closeUp
  split <;> rfl

theorem closeUp_kind (r : Nat) (x : QueueEntry) : (x.closeUp r).kind = x.kind := by
  unfold QueueEntry.closeUp
  split <;> rfl

theorem closeUp_priority (r : Nat) (x : QueueEntry) : (x.closeUp r).priority = x.priority := by
  unfold QueueEntry.closeUp
  split <;> rfl

theorem closeUp_joinRank (r : Nat) (x : QueueEntry) :
    (x.closeUp r).joinRank = if r < x.joinRank then x.joinRank - 1 else x.joinRank := by
  unfold QueueEntry.closeUp
  split <;> rfl

/-- The queue after an entry's port has left it (R109). -/
theorem queue_leaveQueue {s : State} {p : Port} {e : QueueEntry} (he : s.entryOf p = some e) :
    (s.leaveQueue p).queue = (s.queue.filter fun x => x.port != p).map (QueueEntry.closeUp e.joinRank) := by
  unfold State.leaveQueue
  rw [he]
  rfl

/-- A port without an entry leaves the queue as it is. -/
theorem leaveQueue_of_none {s : State} {p : Port} (h : s.entryOf p = none) : s.leaveQueue p = s := by
  unfold State.leaveQueue
  rw [h]

theorem InQueueOrder.filter_map_closeUp {q : List QueueEntry} (h : InQueueOrder q) {e : QueueEntry} (he : e ∈ q) :
    InQueueOrder ((q.filter fun x => x.port != e.port).map (QueueEntry.closeUp e.joinRank)) := by
  have hother : ∀ x ∈ q.filter fun x => x.port != e.port, x ∈ q ∧ x.joinRank ≠ e.joinRank := fun x hx => by
    obtain ⟨hxq, hxe⟩ := List.mem_filter.mp hx
    refine ⟨hxq, fun hr => ?_⟩
    rw [List.inj_on_of_nodup_map h.ranks hxq he hr] at hxe
    simp at hxe
  have hsub : (q.filter fun x => x.port != e.port).Sublist q := List.filter_sublist
  have hlen : (q.filter fun x => x.port != e.port).length + 1 = q.length := by
    have hmem : e.port ∈ q.map (·.port) := List.mem_map_of_mem he
    have hcount := List.length_erase_of_mem hmem
    rw [h.ports.erase_eq_filter, List.filter_map] at hcount
    have hpos := List.length_pos_of_mem hmem
    simp only [List.length_map, Function.comp_def] at hcount hpos
    omega
  have hranks : ∀ x y : QueueEntry, x.joinRank ≠ e.joinRank → y.joinRank ≠ e.joinRank →
      ((x.closeUp e.joinRank).joinRank < (y.closeUp e.joinRank).joinRank ↔ x.joinRank < y.joinRank) := fun x y hx hy => by
    rw [closeUp_joinRank, closeUp_joinRank]
    split <;> split <;> omega
  refine ⟨?ports, ?sorted, ?ranks, ?bounds⟩
  case ports =>
    rw [List.map_map]
    have : (q.filter fun x => x.port != e.port).map ((·.port) ∘ QueueEntry.closeUp e.joinRank)
        = (q.filter fun x => x.port != e.port).map (·.port) := List.map_congr_left fun x _ => closeUp_port _ x
    rw [this]
    exact h.ports.sublist (hsub.map _)
  case sorted =>
    refine List.pairwise_map.mpr ((h.sorted.sublist hsub).imp_of_mem fun {x y} hx hy hxy => ?_)
    rwa [ahead_congr ⟨closeUp_kind _ x, closeUp_priority _ x⟩ ⟨closeUp_kind _ y, closeUp_priority _ y⟩
      (hranks x y (hother x hx).2 (hother y hy).2)]
  case ranks =>
    rw [List.map_map]
    refine List.Nodup.map_on (fun x hx y hy hxy => ?_) (List.Nodup.of_map _ (h.ranks.sublist (hsub.map _)))
    have hx' := hranks x y (hother x hx).2 (hother y hy).2
    have hy' := hranks y x (hother y hy).2 (hother x hx).2
    simp only [Function.comp] at hxy
    exact List.inj_on_of_nodup_map h.ranks (hother x hx).1 (hother y hy).1 (by omega)
  case bounds =>
    intro x hx
    obtain ⟨y, hy, rfl⟩ := List.mem_map.mp hx
    obtain ⟨hyq, hyr⟩ := hother y hy
    have hyb := h.bounds y hyq
    have heb := h.bounds e he
    rw [List.length_map, closeUp_joinRank]
    split <;> omega

/-! ### The queue order through the operations -/

theorem queueOrdered_congr {s t : State} (h : t.queue = s.queue) (hs : s.queueOrdered) : t.queueOrdered := by
  unfold State.queueOrdered at *
  rwa [h]

theorem queueOrdered_leaveQueue (s : State) (p : Port) (hs : s.queueOrdered) : (s.leaveQueue p).queueOrdered := by
  cases he : s.entryOf p with
  | none => rwa [leaveQueue_of_none he]
  | some e =>
    obtain ⟨hmem, rfl⟩ := entryOf_eq_some he
    rw [queueOrdered_iff] at *
    rw [queue_leaveQueue he]
    exact hs.filter_map_closeUp hmem

theorem queueOrdered_joinQueue (s : State) (p : Port) (k : EntryKind) (hs : s.queueOrdered) : (s.joinQueue p k).queueOrdered := by
  unfold State.joinQueue
  split
  · exact hs
  next hnone =>
    have hout : p ∉ s.queue.map (·.port) := entryOf_eq_none.mp (by simpa using hnone)
    rw [queueOrdered_iff] at *
    have hnew : ∀ x ∈ s.queue, s.queue.length + 1 ≠ x.joinRank := fun x hx => by
      have := hs.bounds x hx
      omega
    refine ⟨?_, placeEntry_sorted hs.sorted hnew, ?_, fun x hx => ?_⟩
    · rw [((placeEntry_perm _ _).map _).nodup_iff]
      exact List.nodup_cons.mpr ⟨hout, hs.ports⟩
    · rw [((placeEntry_perm _ _).map _).nodup_iff]
      refine List.nodup_cons.mpr ⟨fun hmem => ?_, hs.ranks⟩
      obtain ⟨x, hx, he⟩ := List.mem_map.mp hmem
      exact hnew x hx he.symm
    · simp only [length_placeEntry]
      obtain rfl | hx := (mem_placeEntry ..).mp hx
      · simp
      · have := hs.bounds x hx
        omega

theorem queueOrdered_raisePassCounts (s : State) (l : List Port) (hs : s.queueOrdered) : (s.raisePassCounts l).queueOrdered := by
  have hsame : ∀ e : QueueEntry, ∃ n, (if e.port ∈ l then { e with passCount := min (e.passCount + 1) 15 } else e)
      = { e with passCount := n } := fun e => by split <;> exact ⟨_, rfl⟩
  rw [queueOrdered_iff] at *
  obtain ⟨hports, hsorted, hranks, hbounds⟩ := hs
  refine ⟨by rwa [ports_raisePassCounts], ?_, ?_, fun x hx => ?_⟩
  · refine List.pairwise_map.mpr (hsorted.imp fun {x y} hxy => ?_)
    obtain ⟨n, hx⟩ := hsame x
    obtain ⟨m, hy⟩ := hsame y
    rw [hx, hy]
    exact (ahead_congr ⟨rfl, rfl⟩ ⟨rfl, rfl⟩ Iff.rfl).trans hxy
  · have : (s.raisePassCounts l).queue.map (·.joinRank) = s.queue.map (·.joinRank) := by
      rw [State.raisePassCounts, List.map_map]
      refine List.map_congr_left fun x _ => ?_
      obtain ⟨n, hx⟩ := hsame x
      simp only [Function.comp, hx]
    rwa [this]
  · obtain ⟨y, hy, rfl⟩ := List.mem_map.mp hx
    obtain ⟨n, hn⟩ := hsame y
    rw [hn]
    simpa [State.raisePassCounts] using hbounds y hy

theorem queueOrdered_repriceEntry (s : State) (p : Port) (k : Priority) (hs : s.queueOrdered) : (s.repriceEntry p k).queueOrdered := by
  rw [queueOrdered_iff] at *
  exact hs.reorder_map (fun e => by split <;> rfl) fun e => by split <;> rfl

theorem queueOrdered_unmarkEntries (s : State) (hs : s.queueOrdered) : s.unmarkEntries.queueOrdered := by
  rw [queueOrdered_iff] at *
  exact hs.reorder_map (fun e => by split <;> rfl) fun e => by split <;> rfl

theorem queue_foldl_restorePort (l : List ShedEntry) (s : State) : (l.foldl State.restorePort s).queue = s.queue :=
  foldl_keeps (P := fun t : State => t.queue = s.queue) (fun t e ht => by
    unfold State.restorePort
    split
    · simpa using ht
    · exact ht) l s rfl

@[simp] theorem queue_popRecord (s : State) : s.popRecord.queue = s.queue := by
  unfold State.popRecord
  split
  · rfl
  · rw [post_queue, queue_foldl_restorePort]

theorem queue_shedPort (s : State) (p : Port) : (s.shedPort p).queue = (s.leaveQueue p).queue := by
  simp [State.shedPort]

theorem queue_makeBatch (s : State) (k : ShedCause) (b : List ShedEntry) : (s.makeBatch k b).queue = s.unmarkEntries.queue := by
  unfold State.makeBatch
  dsimp only
  split
  · simp only [reportShed_queue, post_queue, recordBatch_queue]
    rfl
  · simp only [post_queue, recordBatch_queue]
    rfl

theorem queueOrdered_evaluation : KeptByEvaluation State.queueOrdered where
  queued s e _ _ _ hs := queueOrdered_congr (queue_grantQueued s e.port) (queueOrdered_leaveQueue s e.port hs)
  reserved s e _ _ hs := queueOrdered_congr (queue_grantReserved s e.port) (queueOrdered_leaveQueue s e.port hs)
  passes s l := queueOrdered_raisePassCounts s l
  pop s _ := queueOrdered_congr (by simp)
  figures _ := queueOrdered_congr rfl
  shed s p _ hs := queueOrdered_congr (queue_shedPort s p) (queueOrdered_leaveQueue s p hs)
  batch s k b _ hs := queueOrdered_congr (queue_makeBatch s k b) (queueOrdered_unmarkEntries s hs)

theorem queueOrdered_moves : KeptByMoves State.queueOrdered where
  toKeptByRunning := queueOrdered_evaluation.toKeptByRuns.running
  settle _ _ _ _ _ _ := queueOrdered_congr rfl
  leave s p _ _ _ hs := queueOrdered_congr rfl (queueOrdered_leaveQueue s p hs)
  release _ _ _ _ _ := queueOrdered_congr (by simp)
  disable s p _ _ _ hs := queueOrdered_congr (by simp) (queueOrdered_leaveQueue s p hs)
  unshed _ _ _ _ _ := queueOrdered_congr rfl
  join s p _ hs := queueOrdered_joinQueue _ p _ (queueOrdered_congr rfl hs)
  ramp _ _ _ := queueOrdered_congr (by simp)
  recycle _ _ _ := queueOrdered_congr (by simp [State.enterRecycle])
  await s c _ _ hs := queueOrdered_joinQueue _ (ceilingPort c) _ (queueOrdered_congr rfl hs)

theorem queueOrdered_shape : KeptByShape State.queueOrdered :=
  keptByShape_of_shape (fun _ _ h => queueOrdered_congr h.queue) queueOrdered_moves queueOrdered_repriceEntry
    (evaluate_keeps queueOrdered_evaluation) (fun _ _ _ _ => queueOrdered_congr rfl)
    fun _ _ _ _ => ⟨List.nodup_nil, List.Pairwise.nil, List.Perm.nil⟩

/-- Settles O56: an entry is placed with the next join rank, and a change in place orders the entries again. -/
theorem everyStepKeepsTheQueueOrder : Obligations.EveryStepKeepsTheQueueOrder := fun _ _ hs ht => queueOrdered_shape.step hs ht

end Sys2Proof.Machine
end

section
/-! PROOFS. The queue's entries and their ports: one entry for each waiting port (R105, R106), its priority in force (R110), and at most 4 ports in INRUSH
(R111). -/

namespace Sys2Proof.Machine

/-! ### Properties kept together -/

theorem KeptByRunning.and {P Q : State → Prop} (hP : KeptByRunning P) (hQ : KeptByRunning Q) : KeptByRunning fun s => P s ∧ Q s where
  arbiterRun s hs := ⟨hP.arbiterRun s hs.1, hQ.arbiterRun s hs.2⟩
  restoreRun s hs := ⟨hP.restoreRun s hs.1, hQ.restoreRun s hs.2⟩

theorem KeptByMoves.and {P Q : State → Prop} (hP : KeptByMoves P) (hQ : KeptByMoves Q) : KeptByMoves fun s => P s ∧ Q s where
  toKeptByRunning := hP.toKeptByRunning.and hQ.toKeptByRunning
  settle s p f hi hd hf hs := ⟨hP.settle s p f hi hd hf hs.1, hQ.settle s p f hi hd hf hs.2⟩
  leave s p f hst hf hs := ⟨hP.leave s p f hst hf hs.1, hQ.leave s p f hst hf hs.2⟩
  release s p f hst hf hs := ⟨hP.release s p f hst hf hs.1, hQ.release s p f hst hf hs.2⟩
  disable s p f hst hf hs := ⟨hP.disable s p f hst hf hs.1, hQ.disable s p f hst hf hs.2⟩
  unshed s p f hst hf hs := ⟨hP.unshed s p f hst hf hs.1, hQ.unshed s p f hst hf hs.2⟩
  join s p hst hs := ⟨hP.join s p hst hs.1, hQ.join s p hst hs.2⟩
  ramp s p hst hs := ⟨hP.ramp s p hst hs.1, hQ.ramp s p hst hs.2⟩
  recycle s c hst hs := ⟨hP.recycle s c hst hs.1, hQ.recycle s c hst hs.2⟩
  await s c hst hph hs := ⟨hP.await s c hst hph hs.1, hQ.await s c hst hph hs.2⟩

theorem KeptByQuiet.and {P Q : State → Prop} (hP : KeptByQuiet P) (hQ : KeptByQuiet Q) : KeptByQuiet fun s => P s ∧ Q s where
  quiet s p f hf hs := ⟨hP.quiet s p f hf hs.1, hQ.quiet s p f hf hs.2⟩
  ceiling s c f hs := ⟨hP.ceiling s c f hs.1, hQ.ceiling s c f hs.2⟩
  post s b hs := ⟨hP.post s b hs.1, hQ.post s b hs.2⟩
  rehold s st h hs := ⟨hP.rehold s st h hs.1, hQ.rehold s st h hs.2⟩
  forgetGaps s hs := ⟨hP.forgetGaps s hs.1, hQ.forgetGaps s hs.2⟩
  takeNotices s n hs := ⟨hP.takeNotices s n hs.1, hQ.takeNotices s n hs.2⟩
  lineState s f hs := ⟨hP.lineState s f hs.1, hQ.lineState s f hs.2⟩
  pins s u h hs := ⟨hP.pins s u h hs.1, hQ.pins s u h hs.2⟩
  tick s hs := ⟨hP.tick s hs.1, hQ.tick s hs.2⟩
  bookkeeping s pending free hs := ⟨hP.bookkeeping s pending free hs.1, hQ.bookkeeping s pending free hs.2⟩

/-! ### Properties of single ports under a change of priorities -/

/-- A property that is asked of some of the ports, decided by their priorities in force, and re-established for a port by its priority change: what it
needs to be kept by a profile change and a priority change. -/
structure KeptPortwise (Q : (Port → Prop) → State → Prop) : Prop where
  moves : ∀ A, KeptByMoves (Q A)
  settings : ∀ (A B : Port → Prop) (s : State) (g : Settings), g.timing = s.settings.timing →
    (∀ p, B p → A p ∧ ({ s with settings := g } : State).priorityOf p = s.priorityOf p) → Q A s → Q B { s with settings := g }
  priority : ∀ (A : Port → Prop) (s : State) (p : Port), Q A s → Q (fun q => A q ∨ q = p) (s.applyPriority p (s.priorityOf p))

section
variable {Q : (Port → Prop) → State → Prop} (h : KeptPortwise Q)
include h

/-- Asking less of a state. -/
theorem KeptPortwise.mono {A B : Port → Prop} {s : State} (hAB : ∀ p, B p → A p) (hs : Q A s) : Q B s :=
  h.settings A B s s.settings rfl (fun p hp => ⟨hAB p hp, rfl⟩) hs

/-- A priority change of the profile in force while RUNNING, before its evaluation (R15, R18). -/
theorem KeptPortwise.storeAdmin {s : State} {p : Port} {x : PortSettings} (hr : s.unit.unitState = .running)
    (hs : Q (fun _ => True) s) : Q (fun _ => True) ((s.storeAdmin p x).1.applyPriority p x.priority) := by
  have hw : Q (fun q => q ≠ p) (s.written p x) := h.settings _ _ s _ rfl (fun q hq => ⟨trivial, ?_⟩) hs
  · have ha : Q (fun q => q ≠ p) (s.storeAdmin p x).1 ∧ (s.storeAdmin p x).1.settings = (s.written p x).settings := by
      unfold State.storeAdmin
      split
      · exact ⟨hw, rfl⟩
      · exact ⟨applyAdmin_keeps (h.moves _) hr hw, (sameHost_applyAdmin p x.admin _).1⟩
    have hx : x.priority = (s.storeAdmin p x).1.priorityOf p := by
      rw [priorityOf_congr ha.2]
      unfold State.priorityOf
      rw [portSettings_written, if_pos rfl]
    rw [hx]
    exact h.mono (fun q _ => ne_or_eq q p) (h.priority _ _ p ha.1)
  · show ((s.written p x).portSettings q).priority = s.priorityOf q
    rw [portSettings_written, if_neg hq]
    rfl

/-- The priority pass of a profile change re-establishes the property port by port (R20). -/
theorem KeptPortwise.priorityPass {new : Port → Priority} {same : Port → Prop} [DecidablePred same] (l : List Port) :
    ∀ s : State, (∀ p, s.priorityOf p = new p) → Q (fun p => same p ∨ p ∉ l) s →
      Q (fun _ => True) (l.foldl (fun t p => if same p then t else t.applyPriority p (new p)) s) := by
  induction l with
  | nil => exact fun s _ hs => h.mono (fun p _ => .inr List.not_mem_nil) hs
  | cons p l ih =>
    intro s hnew hs
    rw [List.foldl_cons]
    split
    next hp =>
      refine ih s hnew (h.mono (fun q hq => ?_) hs)
      by_cases hqp : q = p
      · exact .inl (hqp ▸ hp)
      · exact hq.imp_right fun hql => by simp [hqp, hql]
    next hp =>
      refine ih _ (fun q => by rw [priorityOf_congr (sameHost_applyPriority p _ s).1, hnew]) ?_
      rw [← hnew p]
      refine h.mono (fun q hq => ?_) (h.priority _ s p hs)
      by_cases hqp : q = p
      · exact .inr hqp
      · exact .inl (hq.imp_right fun hql => by simp [hqp, hql])

/-- The two passes of a profile change while RUNNING (R20). -/
theorem KeptPortwise.switchPriorities {s : State} (i : Fin 2) (hr : s.unit.unitState = .running) (hs : Q (fun _ => True) s) :
    Q (fun _ => True) (s.switchPriorities i) := by
  have hw : Q (fun p => ((s.settings.profiles.get i).get p).priority = s.priorityOf p)
      { s with settings := { s.settings with inForce := i } } := h.settings _ _ s _ rfl (fun p hp => ⟨trivial, hp⟩) hs
  obtain ⟨⟨-, hset⟩, hadmin⟩ : ((s.switchAdmins i).unit.unitState = .running
      ∧ (s.switchAdmins i).settings = { s.settings with inForce := i })
      ∧ Q (fun p => ((s.settings.profiles.get i).get p).priority = s.priorityOf p) (s.switchAdmins i) := by
    unfold State.switchAdmins
    refine foldl_keeps (P := fun t : State => (t.unit.unitState = .running ∧ t.settings = { s.settings with inForce := i })
      ∧ Q (fun p => ((s.settings.profiles.get i).get p).priority = s.priorityOf p) t) (fun t p ht => ?_) allPorts _ ⟨⟨hr, rfl⟩, hw⟩
    obtain ⟨⟨htr, hts⟩, htq⟩ := ht
    split
    · exact ⟨⟨htr, hts⟩, htq⟩
    · have hhost := sameHost_applyAdmin p ((s.settings.profiles.get i).get p).admin t
      exact ⟨⟨(sameHost_unitState hhost).trans htr, hhost.1.trans hts⟩, applyAdmin_keeps (h.moves _) htr htq⟩
  refine h.priorityPass (new := fun p => ((s.settings.profiles.get i).get p).priority)
    (same := fun p => ((s.settings.profiles.get i).get p).priority = s.priorityOf p) allPorts _ (fun p => ?_)
    (h.mono (fun p hp => hp.resolve_right (by simp [allPorts])) hadmin)
  unfold State.priorityOf State.portSettings
  rw [hset]

/-- A property of the ports that speaks of a HELD unit alone when its lists are empty is kept by every step with the unit's quiet. -/
theorem KeptPortwise.standing (hst : ∀ s t : State, s.SameStanding t → Q (fun _ => True) s → Q (fun _ => True) t)
    (hev : ∀ (s : State) (k : ShedCause), Q (fun _ => True) s → Q (fun _ => True) (s.evaluate k))
    (hheld : ∀ (s : State) (g : Settings), s.unit.unitState = .held → s.heldQuiet → g.timing = s.settings.timing →
      Q (fun _ => True) s → Q (fun _ => True) { s with settings := g })
    (hslots : ∀ (s : State) (t : Timing), Q (fun _ => True) s → Q (fun _ => True) { s with settings := { s.settings with timing := t.take } })
    (hwake : ∀ (s : State) (u : StartUp), Q (fun _ => True) s → Q (fun _ => True) { s with unit := u })
    (hblank : ∀ (u : StartUp) (free : Nat) (pending : List Instr), Q (fun _ => True) (State.blank u free pending)) :
    KeptByStanding fun s => s.heldQuiet ∧ Q (fun _ => True) s where
  toKeptByMoves := heldQuiet_moves.and (h.moves _)
  toKeptByQuiet := (heldQuiet_shape.toKeptByQuiet).and (keptByQuiet_of_standing hst)
  supply s f hs := ⟨heldQuiet_shape.supply s f hs.1, supply_of_standing hst s f hs.2⟩
  imposedCap s cap hs := ⟨heldQuiet_shape.imposedCap s cap hs.1, imposedCap_of_standing hst s cap hs.2⟩
  settings s g ht hp hs := ⟨heldQuiet_shape.settings s g hs.1, settings_of_standing hst s g ht hp hs.2⟩
  evaluate s k hs := ⟨heldQuiet_evaluate s k hs.1, hev s k hs.2⟩
  wake s u hu hr hs := ⟨heldQuiet_shape.wake s u hu hr hs.1, hwake s u hs.2⟩
  heldSettings s g hu ht hs := ⟨heldQuiet_shape.settings s g hs.1, hheld s g hu hs.1 ht hs.2⟩
  slots s t hs := ⟨heldQuiet_shape.settings s _ hs.1, hslots s t hs.2⟩
  storePriority s p x hr hx hs := by
    refine ⟨heldQuiet_shape.toStanding.storePriority s p x hr hx hs.1, ?_⟩
    rw [storePort_inForce hr, if_neg hx]
    exact hev _ _ (h.storeAdmin hr hs.2)
  switchRunning s i hr hs := by
    refine ⟨heldQuiet_shape.toStanding.switchRunning s i hr hs.1, ?_⟩
    rw [switchProfile_running hr]
    exact hev _ _ (h.switchPriorities i hr hs.2)
  blank u free pending hu := ⟨heldQuiet_shape.blank u free pending hu, hblank u free pending⟩

end

/-! ### One entry for each waiting port -/

/-- The records of the ports that hold an entry of the queue (R105). -/
def PortRecord.waits (r : PortRecord) : Prop := r.state = .queued ∨ (r.state = .recycle ∧ r.recyclePhase = some .waitSlot)

theorem queueExact_iff {s : State} : s.queueExact ↔ (s.queue.map (·.port)).Nodup
    ∧ (∀ p, p ∈ s.queue.map (·.port) ↔ (s.port p).waits) ∧ ∀ e ∈ s.queue, (e.kind = .reserved ↔ (s.port e.port).state = .recycle) :=
  Iff.rfl

theorem not_waits_of_idle {r : PortRecord} (h : r.state.idle = true) : ¬ r.waits := by
  rintro (hst | ⟨hst, -⟩) <;> rw [hst] at h <;> cases h

/-- An entry after a port has left is an entry that stood before, of another port, but for its rank. -/
theorem mem_leaveQueue {s : State} {p : Port} {x : QueueEntry} (hx : x ∈ (s.leaveQueue p).queue) :
    ∃ y ∈ s.queue, y.port ≠ p ∧ x.port = y.port ∧ x.kind = y.kind ∧ x.priority = y.priority := by
  cases he : s.entryOf p with
  | none =>
    rw [leaveQueue_of_none he] at hx
    refine ⟨x, hx, fun hxp => entryOf_eq_none.mp he ?_, rfl, rfl, rfl⟩
    exact List.mem_map.mpr ⟨x, hx, hxp⟩
  | some e =>
    rw [queue_leaveQueue he, List.mem_map] at hx
    obtain ⟨y, hy, rfl⟩ := hx
    obtain ⟨hyq, hyp⟩ := List.mem_filter.mp hy
    exact ⟨y, hyq, by simpa using hyp, closeUp_port _ y, closeUp_kind _ y, closeUp_priority _ y⟩

section
variable {s t : State} {p : Port}

/-- A port that stops waiting leaves the queue (R109). -/
theorem queueExact_leave (hq : t.queue = (s.leaveQueue p).queue) (hnew : ¬ (t.port p).waits)
    (hp : ∀ q, q ≠ p → t.port q = s.port q) (hs : s.queueExact) : t.queueExact := by
  rw [queueExact_iff] at *
  obtain ⟨hnd, hmem, hkind⟩ := hs
  rw [hq, ports_leaveQueue]
  refine ⟨hnd.filter _, fun q => ?_, fun x hx => ?_⟩
  · rw [List.mem_filter, hmem, bne_iff_ne]
    by_cases hqp : q = p
    · subst hqp; simp [hnew]
    · rw [hp q hqp]; simp [hqp]
  · obtain ⟨y, hy, hyp, hport, hyk, -⟩ := mem_leaveQueue hx
    rw [hport, hyk, hp _ hyp]
    exact hkind y hy

/-- A port that neither waited nor waits has no entry. -/
theorem queueExact_onePort (hq : t.queue = s.queue) (hold : ¬ (s.port p).waits) (hnew : ¬ (t.port p).waits)
    (hp : ∀ q, q ≠ p → t.port q = s.port q) (hs : s.queueExact) : t.queueExact := by
  have hnone : s.entryOf p = none := entryOf_eq_none.mpr fun h => hold ((hs.2.1 p).mp h)
  exact queueExact_leave (by rw [hq, leaveQueue_of_none hnone]) hnew hp hs

/-- A port that begins to wait joins the queue (R108). -/
theorem queueExact_join {k : EntryKind} (hq : t.queue = (s.joinQueue p k).queue) (hold : ¬ (s.port p).waits) (hnew : (t.port p).waits)
    (hk : k = .reserved ↔ (t.port p).state = .recycle) (hp : ∀ q, q ≠ p → t.port q = s.port q) (hs : s.queueExact) :
    t.queueExact := by
  have hnone : s.entryOf p = none := entryOf_eq_none.mpr fun h => hold ((hs.2.1 p).mp h)
  rw [queueExact_iff] at *
  obtain ⟨hnd, hmem, hkind⟩ := hs
  have hports := ports_joinQueue s p k hnone
  have hout : p ∉ s.queue.map (·.port) := fun h => hold ((hmem p).mp h)
  rw [hq]
  refine ⟨hports.nodup_iff.mpr (List.nodup_cons.mpr ⟨hout, hnd⟩), fun q => ?_, fun x hx => ?_⟩
  · rw [hports.mem_iff, List.mem_cons, hmem]
    by_cases hqp : q = p
    · subst hqp; simp [hnew]
    · rw [hp q hqp]; simp [hqp]
  · simp only [State.joinQueue, hnone, Option.isSome_none, Bool.false_eq_true, if_false, mem_placeEntry] at hx
    obtain rfl | hx := hx
    · exact hk
    · have hxp : x.port ≠ p := fun h => hout (h ▸ List.mem_map_of_mem hx)
      rw [hp _ hxp]
      exact hkind x hx

/-- The same waiting ports, and entries of the same ports and kinds but for marks. -/
theorem queueExact_same (hq : (t.queue.map (·.port)).Perm (s.queue.map (·.port)))
    (hk : ∀ x ∈ t.queue, ∃ y ∈ s.queue, x.port = y.port ∧ (x.kind = .reserved ↔ y.kind = .reserved))
    (hp : ∀ q, (t.port q).state = (s.port q).state ∧ (t.port q).recyclePhase = (s.port q).recyclePhase
      ∨ (¬ (t.port q).waits ∧ ¬ (s.port q).waits)) (hs : s.queueExact) : t.queueExact := by
  have hwaits : ∀ q, (t.port q).waits ↔ (s.port q).waits := fun q => by
    obtain ⟨hst, hph⟩ | ⟨ht, hs⟩ := hp q
    · unfold PortRecord.waits; rw [hst, hph]
    · exact iff_of_false ht hs
  rw [queueExact_iff] at *
  obtain ⟨hnd, hmem, hkind⟩ := hs
  refine ⟨hq.nodup_iff.mpr hnd, fun q => by rw [hq.mem_iff, hmem, hwaits], fun x hx => ?_⟩
  obtain ⟨y, hy, hport, hxy⟩ := hk x hx
  have hw : (s.port y.port).waits := (hmem _).mp (List.mem_map_of_mem hy)
  obtain ⟨hst, -⟩ | ⟨-, hno⟩ := hp y.port
  · rw [hxy, hkind y hy, hport, hst]
  · exact absurd hw hno

theorem queueExact_of_sameShape (h : s.SameShape t) : s.queueExact → t.queueExact :=
  queueExact_same (by rw [h.queue]) (fun x hx => ⟨x, h.queue ▸ hx, rfl, Iff.rfl⟩)
    fun q => .inl ⟨(h.ports q).1, (h.ports q).2.1⟩

end

/-! ### Grants of entries that match their ports -/

/-- A RESERVED entry stands for no QUEUED port, and another for no RECYCLE port (R106). -/
def State.matching (s : State) (e : QueueEntry) : Prop :=
  (e.kind = .reserved → (s.port e.port).state ≠ .queued) ∧ (e.kind ≠ .reserved → (s.port e.port).state ≠ .recycle)

theorem matching_of_queueExact {s : State} (hs : s.queueExact) {e : QueueEntry} (he : e ∈ s.queue) : s.matching e := by
  have hkind := hs.2.2 e he
  exact ⟨fun hk => by rw [hkind.mp hk]; nofun, fun hk hst => hk (hkind.mpr hst)⟩

/-- A grant moves ports to INRUSH alone, so that it leaves the other entries matching. -/
theorem matching_of_ports {s t : State} (h : ∀ q, t.port q = s.port q ∨ (t.port q).state = .inrush) {e : QueueEntry}
    (he : s.matching e) : t.matching e := by
  obtain hq | hq := h e.port
  · unfold State.matching; rwa [hq]
  · exact ⟨fun _ => by rw [hq]; nofun, fun _ => by rw [hq]; nofun⟩

theorem port_grantQueued_or (s : State) (p q : Port) :
    (s.grantQueued p).port q = s.port q ∨ ((s.grantQueued p).port q).state = .inrush := by
  rw [port_grantQueued]
  split
  · exact .inr rfl
  · exact .inl rfl

theorem port_grantReserved_or (s : State) (p q : Port) :
    (s.grantReserved p).port q = s.port q ∨ ((s.grantReserved p).port q).state = .inrush := by
  rw [port_grantReserved]
  split
  · exact .inr rfl
  · exact .inl rfl

theorem queueExact_grantQueued {s : State} {p : Port} (hp : (s.port p).state ≠ .recycle) (hs : s.queueExact) :
    (s.grantQueued p).queueExact := by
  refine queueExact_leave (p := p) (queue_grantQueued s p) ?_ (fun q hq => ?_) hs
  · rintro (h | ⟨h, -⟩) <;> rw [port_grantQueued] at h <;> split at h <;> simp_all [PortRecord.enter]
  · rw [port_grantQueued, if_neg fun h => hq h.1]

theorem queueExact_grantReserved {s : State} {p : Port} (hp : (s.port p).state ≠ .queued) (hs : s.queueExact) :
    (s.grantReserved p).queueExact := by
  refine queueExact_leave (p := p) (queue_grantReserved s p) ?_ (fun q hq => ?_) hs
  · rw [port_grantReserved]
    split
    · rintro (h | ⟨h, -⟩) <;> cases h
    next hno => exact fun h => h.elim hp fun h => hno ⟨rfl, h⟩
  · rw [port_grantReserved, if_neg fun h => hq h.1]

theorem queueExact_raisePassCounts (s : State) (l : List Port) : s.queueExact → (s.raisePassCounts l).queueExact :=
  queueExact_same (by rw [ports_raisePassCounts]) (fun x hx => by
    obtain ⟨y, hy, rfl⟩ := List.mem_map.mp hx
    exact ⟨y, hy, by split <;> rfl, by split <;> rfl⟩) fun q => .inl ⟨rfl, rfl⟩

/-- A walk over entries that match their ports keeps one entry for each waiting port (R115). -/
theorem queueExact_walk (q : List QueueEntry) : ∀ level passed granted (s : State), (∀ e ∈ q, s.matching e) → s.queueExact →
    (walk q level passed granted s).1.queueExact := by
  induction q with
  | nil => intro _ _ _ s _ hs; exact hs
  | cons e rest ih =>
    intro level passed granted s hq hs
    obtain ⟨he, hrest⟩ := List.forall_mem_cons.mp hq
    unfold walk
    split
    · exact hs
    · split
      next hk =>
        exact ih _ _ _ _ (fun x hx => matching_of_ports (port_grantReserved_or s e.port) (hrest x hx))
          (queueExact_grantReserved (he.1 hk) hs)
      next hk =>
        split
        · exact hs
        · split
          · exact ih _ _ _ _ (fun x hx => matching_of_ports (port_grantQueued_or s e.port) (hrest x hx))
              (queueExact_raisePassCounts _ _ (queueExact_grantQueued (he.2 hk) hs))
          · split
            · exact hs
            · exact ih _ _ _ _ hrest hs

theorem queueExact_restoreTest {s : State} (hs : s.queueExact) : s.restoreTest.queueExact := by
  unfold State.restoreTest
  split
  · unfold State.popRecord
    split
    · exact hs
    next r below _ =>
      refine queueExact_of_sameShape (sameShape_of_eq (s := r.entries.foldl State.restorePort { s with stack := below })
        (by simp) (by simp) (by simp) (by simp) (by simp)) (foldl_keeps (P := State.queueExact) (fun t e => ?_) r.entries _ hs)
      refine queueExact_same ?_ (fun x hx => ⟨x, ?_, rfl, Iff.rfl⟩) fun q => ?_
      · exact .of_eq (congrArg _ (queue_foldl_restorePort [e] t))
      · exact queue_foldl_restorePort [e] t ▸ hx
      · rw [port_restorePort]
        split
        next h =>
          obtain ⟨rfl, hst⟩ := h
          exact .inr ⟨not_waits_of_idle rfl, by rintro (h | ⟨h, -⟩) <;> rw [hst] at h <;> cases h⟩
        · exact .inl ⟨rfl, rfl⟩
  · exact hs

theorem queueExact_arbiterRun {s : State} (hs : s.queueExact) : s.arbiterRun.queueExact := by
  unfold State.arbiterRun
  generalize s.queue.length + 1 = n
  induction n generalizing s with
  | zero => exact hs
  | succ n ih =>
    have hw := queueExact_walk s.queue none [] false s (fun e he => matching_of_queueExact hs he) hs
    unfold arbiterRuns
    dsimp only
    split
    · exact ih (queueExact_restoreTest hw)
    · exact hw

theorem not_waits_inrush {r : PortRecord} (h : r.state = .inrush ∨ r.state = .on ∨ r.state = .shed ∨ r.state = .classify) :
    ¬ r.waits := by
  rintro (hst | ⟨hst, -⟩) <;> rw [hst] at h <;> simp at h

theorem queueExact_shedPort (s : State) (p : Port) (hs : s.queueExact) : (s.shedPort p).queueExact :=
  queueExact_leave (queue_shedPort s p) (by rw [port_shedPort, if_pos rfl]; exact not_waits_inrush (by simp [PortRecord.enter]))
    (fun q hq => by rw [port_shedPort, if_neg hq]) hs

theorem queueExact_makeBatch (s : State) (k : ShedCause) (b : List ShedEntry) : s.queueExact → (s.makeBatch k b).queueExact := by
  refine queueExact_same ?_ (fun x hx => ?_) fun q => by rw [port_makeBatch]; exact .inl ⟨rfl, rfl⟩
  · rw [queue_makeBatch]
    exact ports_unmarkEntries s
  · rw [queue_makeBatch, State.unmarkEntries, mem_reorder, List.mem_map] at hx
    obtain ⟨y, hy, rfl⟩ := hx
    refine ⟨y, hy, by split <;> rfl, ?_⟩
    split
    next hk => simp [hk]
    · rfl

theorem queueExact_evaluate (s : State) (k : ShedCause) (hs : s.queueExact) : (s.evaluate k).queueExact := by
  have hfigures : s.recompute.queueExact := queueExact_of_sameShape (sameShape_of_eq rfl rfl rfl rfl rfl) hs
  refine queueExact_arbiterRun ?_
  unfold State.shedOrRestore
  split
  · have hshed := shedStep_keeps (fun t p _ => queueExact_shedPort t p) s.recompute.candidates [] _ hfigures
    dsimp only
    split
    · exact hshed
    · exact queueExact_makeBatch _ _ _ hshed
  · exact queueExact_restoreTest hfigures

/-- A join looks at the queue and the priority in force, at no record. -/
theorem queue_joinQueue_updPort (s : State) (p q : Port) (f : PortRecord → PortRecord) (k : EntryKind) :
    ((s.updPort p f).joinQueue q k).queue = (s.joinQueue q k).queue := by
  unfold State.joinQueue
  rw [apply_ite State.queue, apply_ite State.queue]
  rfl

theorem queueExact_moves : KeptByMoves State.queueExact where
  arbiterRun _ := queueExact_arbiterRun
  restoreRun _ hs := queueExact_arbiterRun (queueExact_restoreTest hs)
  settle s p f hi _ hf := queueExact_onePort (p := p) rfl (not_waits_of_idle hi)
    (by rw [port_updPort_self]; exact not_waits_of_idle hf.idle) fun q hq => port_updPort_ne s f hq
  leave s p f _ hf := queueExact_leave (p := p) rfl (by rw [port_left, if_pos rfl]; exact not_waits_of_idle hf.idle)
    fun q hq => by rw [port_left, if_neg hq]
  release s p f hst hf := queueExact_onePort (p := p) (by simp)
    (not_waits_inrush (hst.imp_right .inl)) (by rw [port_released, if_pos rfl]; exact not_waits_of_idle hf.idle)
    fun q hq => by rw [port_released, if_neg hq]
  disable s p f _ hf := queueExact_leave (p := p) (by simp)
    (by rw [port_disabled, if_pos rfl]; exact not_waits_of_idle hf.idle) fun q hq => by rw [port_disabled, if_neg hq]
  unshed s p f hst hf := queueExact_onePort (p := p) rfl (not_waits_inrush (.inr (.inr (.inl hst))))
    (by rw [port_unshed, if_pos rfl]; exact not_waits_of_idle hf.idle) fun q hq => by rw [port_unshed, if_neg hq]
  join s p hst := by
    refine queueExact_join (p := p) (k := if ((s.updPort p fun r => r.enter .queued).port p).mark.isSome then .marked else .ordinary)
      ?_ (not_waits_inrush (by simp [hst])) ?_ ?_ fun q hq => by rw [port_enterQueued, if_neg hq]
    · exact queue_joinQueue_updPort s p p _ _
    · rw [port_enterQueued, if_pos rfl]; exact .inl rfl
    · rw [port_enterQueued, if_pos rfl]
      split <;> simp [PortRecord.enter]
  ramp s p hst := queueExact_onePort (p := p) (by simp) (not_waits_inrush (.inl hst))
    (by rw [port_enterOn, if_pos rfl]; exact not_waits_inrush (by simp [PortRecord.enter])) fun q hq => by rw [port_enterOn, if_neg hq]
  recycle s c hst := queueExact_onePort (p := ceilingPort c) (by simp [State.enterRecycle]) (not_waits_inrush (.inr (.inl hst)))
    (by rw [port_enterRecycle, if_pos rfl]; rintro (h | ⟨-, h⟩) <;> cases h) fun q hq => by rw [port_enterRecycle, if_neg hq]
  await s c hst hph := queueExact_join (p := ceilingPort c) (k := .reserved) (queue_joinQueue_updPort s _ _ _ _)
    (by rintro (h | ⟨-, h⟩) <;> simp_all) (by rw [port_awaited, if_pos rfl]; exact .inr ⟨hst, rfl⟩)
    (by rw [port_awaited, if_pos rfl]; simp [hst]) fun q hq => by rw [port_awaited, if_neg hq]

theorem queueExact_shape : KeptByShape State.queueExact :=
  keptByShape_of_shape (fun _ _ => queueExact_of_sameShape) queueExact_moves
    (fun s p k => queueExact_same (ports_repriceEntry s p k) (fun x hx => by
      rw [State.repriceEntry, mem_reorder, List.mem_map] at hx
      obtain ⟨y, hy, rfl⟩ := hx
      exact ⟨y, hy, by split <;> rfl, by split <;> rfl⟩) fun q => .inl ⟨rfl, rfl⟩)
    queueExact_evaluate (fun _ _ _ _ hs => hs)
    fun u free pending _ => ⟨List.nodup_nil, fun p => by
      rw [port_blank]
      simp [State.blank, PortRecord.atReset], nofun⟩

/-! ### The priorities of the entries -/

/-- The entries of these ports have their ports' priorities in force (R106, R110). -/
def State.pricedOn (A : Port → Prop) (s : State) : Prop := ∀ e ∈ s.queue, A e.port → e.priority = s.priorityOf e.port

theorem pricedOn_true {s : State} : s.pricedOn (fun _ => True) ↔ s.queuePriced :=
  ⟨fun h e he => h e he trivial, fun h e he _ => h e he⟩

/-- Every entry stood before with its port and priority. -/
theorem pricedOn_of {A : Port → Prop} {s t : State} (hg : t.settings = s.settings)
    (hq : ∀ x ∈ t.queue, ∃ y ∈ s.queue, x.port = y.port ∧ x.priority = y.priority) (hs : s.pricedOn A) : t.pricedOn A := by
  intro x hx hA
  obtain ⟨y, hy, hport, hpri⟩ := hq x hx
  rw [hpri, hport, priorityOf_congr hg]
  exact hs y hy (hport ▸ hA)

theorem pricedOn_same {A : Port → Prop} {s t : State} (hg : t.settings = s.settings) (hq : t.queue = s.queue) :
    s.pricedOn A → t.pricedOn A :=
  pricedOn_of hg fun x hx => ⟨x, hq ▸ hx, rfl, rfl⟩

theorem pricedOn_leave {A : Port → Prop} {s t : State} {p : Port} (hg : t.settings = s.settings)
    (hq : t.queue = (s.leaveQueue p).queue) : s.pricedOn A → t.pricedOn A :=
  pricedOn_of hg fun x hx => by
    obtain ⟨y, hy, -, hport, -, hpri⟩ := mem_leaveQueue (hq ▸ hx)
    exact ⟨y, hy, hport, hpri⟩

/-- A new entry is placed with its port's priority in force (R108). -/
theorem pricedOn_join {A : Port → Prop} {s t : State} {p : Port} {k : EntryKind} (hg : t.settings = s.settings)
    (hq : t.queue = (s.joinQueue p k).queue) (hs : s.pricedOn A) : t.pricedOn A := by
  refine pricedOn_same (s := s.joinQueue p k) (by simp [hg]) hq ?_
  unfold State.joinQueue
  split
  · exact hs
  · intro x hx hA
    obtain rfl | hx := (mem_placeEntry ..).mp hx
    · rfl
    · exact hs x hx hA

theorem pricedOn_evaluation (A : Port → Prop) : KeptByEvaluation (State.pricedOn A) where
  queued s e _ _ _ := pricedOn_leave (p := e.port) (sameHost_grantQueued _ s).1 (queue_grantQueued s e.port)
  reserved s e _ _ := pricedOn_leave (p := e.port) (sameHost_grantReserved _ s).1 (queue_grantReserved s e.port)
  passes s l := pricedOn_of rfl fun x hx => by
    obtain ⟨y, hy, rfl⟩ := List.mem_map.mp hx
    exact ⟨y, hy, by split <;> rfl, by split <;> rfl⟩
  pop s _ := pricedOn_same (sameHost_popRecord s).1 (by simp)
  figures s := pricedOn_same rfl rfl
  shed s p _ := pricedOn_leave (p := p) (sameHost_shedPort p s).1 (queue_shedPort s p)
  batch s k b _ := pricedOn_of (sameHost_makeBatch k b s).1 fun x hx => by
    rw [queue_makeBatch, State.unmarkEntries, mem_reorder, List.mem_map] at hx
    obtain ⟨y, hy, rfl⟩ := hx
    exact ⟨y, hy, by split <;> rfl, by split <;> rfl⟩

theorem pricedOn_moves (A : Port → Prop) : KeptByMoves (State.pricedOn A) where
  toKeptByRunning := (pricedOn_evaluation A).toKeptByRuns.running
  settle _ _ _ _ _ _ := pricedOn_same rfl rfl
  leave s p f _ _ := pricedOn_leave (p := p) (by simp) rfl
  release s p f _ _ := pricedOn_same (by simp) (by simp)
  disable s p f _ _ := pricedOn_leave (p := p) (by simp) (by simp)
  unshed _ _ _ _ _ := pricedOn_same rfl rfl
  join s p _ := pricedOn_join (p := p) (sameHost_enterQueued p s).1 (queue_joinQueue_updPort s p p _ _)
  ramp s p _ := pricedOn_same (by simp) (by simp)
  recycle s c _ := pricedOn_same (sameHost_enterRecycle _ s).1 (by simp [State.enterRecycle])
  await s c _ _ := pricedOn_join (p := ceilingPort c) (by simp) (queue_joinQueue_updPort s _ _ _ _)

/-- A priority change re-places the port's entry under it (R110). -/
theorem pricedOn_applyPriority (A : Port → Prop) (s : State) (p : Port) (hs : s.pricedOn A) :
    (s.applyPriority p (s.priorityOf p)).pricedOn fun q => A q ∨ q = p := by
  have hreprice : (s.repriceEntry p (s.priorityOf p)).pricedOn fun q => A q ∨ q = p := by
    intro x hx hA
    rw [State.repriceEntry, mem_reorder, List.mem_map] at hx
    obtain ⟨y, hy, rfl⟩ := hx
    split at hA
    next hp => rw [if_pos hp]; exact congrArg s.priorityOf hp.symm
    next hp => rw [if_neg hp]; exact hs y hy (hA.resolve_right hp)
  unfold State.applyPriority
  dsimp only
  split
  · exact pricedOn_same rfl rfl hreprice
  · exact hreprice

theorem pricedOn_portwise : KeptPortwise State.pricedOn where
  moves := pricedOn_moves
  settings _ _ _ _ _ hp hs e he hB := (hs e he (hp _ hB).1).trans (hp _ hB).2.symm
  priority := pricedOn_applyPriority

theorem pricedOn_standing : KeptByStanding fun s => s.heldQuiet ∧ s.pricedOn fun _ => True :=
  pricedOn_portwise.standing
    (fun s t h hs x hx hA => by rw [h.queue] at hx; rw [h.priority]; exact hs x hx hA)
    (evaluate_keeps (pricedOn_evaluation _))
    (fun s g hu hh _ _ x hx => by
      obtain ⟨-, -, hqueue, -⟩ := hh hu
      rw [show s.queue = [] from hqueue] at hx
      cases hx)
    (fun _ _ hs => hs) (fun _ _ hs => hs) fun _ _ _ => nofun

/-! ### The ports in INRUSH -/

/-- The ports' records are those of ports 1 to 56 in order. -/
theorem ports_toList (s : State) : s.ports.toList = allPorts.map s.port := by
  refine List.ext_getElem (by simp [allPorts]) fun i hi _ => ?_
  simp [allPorts, State.port, Vector.get_eq_getElem]

theorem inrushCount_eq (s : State) : s.inrushCount = allPorts.countP fun p => (s.port p).state == .inrush := by
  unfold State.inrushCount
  rw [ports_toList, List.countP_map]
  rfl

/-- No port has come to INRUSH. -/
theorem inrushCount_le {s t : State} (h : ∀ q, (t.port q).state = .inrush → (s.port q).state = .inrush) :
    t.inrushCount ≤ s.inrushCount := by
  rw [inrushCount_eq, inrushCount_eq]
  exact List.countP_mono_left fun q _ hq => by simpa using h q (by simpa using hq)

/-- One port has come to INRUSH at most. -/
theorem inrushCount_le_succ {s t : State} {p : Port} (h : ∀ q, q ≠ p → t.port q = s.port q) : t.inrushCount ≤ s.inrushCount + 1 := by
  have hcount : ∀ l : List Port, (l.countP fun q => (t.port q).state == .inrush)
      ≤ (l.countP fun q => (s.port q).state == .inrush) + l.count p := fun l => by
    induction l with
    | nil => simp
    | cons q l ih =>
      rw [List.countP_cons, List.countP_cons, List.count_cons]
      by_cases hq : q = p
      · subst hq; simp only [beq_self_eq_true, if_true]; split <;> split <;> omega
      · rw [h q hq]; omega
  have hone : allPorts.count p ≤ 1 := List.nodup_iff_count_le_one.mp (List.nodup_finRange 56) p
  rw [inrushCount_eq, inrushCount_eq]
  exact (hcount allPorts).trans (Nat.add_le_add_left hone _)

/-- The slots in use and the slots there are stay within 4 (R44, R111). -/
def State.slotsFit (s : State) : Prop := s.settings.timing.inrushSlots ≤ 4 ∧ s.inrushCount ≤ 4

theorem slotsFit_of {s t : State} (hg : t.settings.timing = s.settings.timing)
    (h : ∀ q, (t.port q).state = .inrush → (s.port q).state = .inrush) (hs : s.slotsFit) : t.slotsFit :=
  ⟨hg ▸ hs.1, (inrushCount_le h).trans hs.2⟩

theorem slotsFit_onePort {s t : State} {p : Port} (hg : t.settings.timing = s.settings.timing)
    (hnew : (t.port p).state = .inrush → (s.port p).state = .inrush) (hp : ∀ q, q ≠ p → t.port q = s.port q) :
    s.slotsFit → t.slotsFit :=
  slotsFit_of hg fun q hq => by
    by_cases h : q = p
    · subst h; exact hnew hq
    · rwa [hp q h] at hq

/-- A grant finds a slot free (R113). -/
theorem slotsFit_grant {s t : State} {p : Port} (hg : t.settings.timing = s.settings.timing)
    (hfree : s.inrushCount < s.settings.timing.inrushSlots) (hp : ∀ q, q ≠ p → t.port q = s.port q) (hs : s.slotsFit) : t.slotsFit := by
  have := inrushCount_le_succ hp
  obtain ⟨hslots, -⟩ := hs
  exact ⟨hg ▸ hslots, by omega⟩

theorem slotsFit_evaluation : KeptByEvaluation State.slotsFit where
  queued s e _ _ hn := slotsFit_grant (p := e.port) (by rw [(sameHost_grantQueued _ s).1]) hn
    fun q hq => by rw [port_grantQueued, if_neg fun h => hq h.1]
  reserved s e _ hn := slotsFit_grant (p := e.port) (by rw [(sameHost_grantReserved _ s).1]) hn
    fun q hq => by rw [port_grantReserved, if_neg fun h => hq h.1]
  passes s l := slotsFit_of rfl fun q hq => hq
  pop s _ hs := by
    unfold State.popRecord
    split
    · exact hs
    next r below _ =>
      refine slotsFit_of (s := r.entries.foldl State.restorePort { s with stack := below }) (by simp)
        (fun q hq => by rwa [port_post] at hq) (foldl_keeps (P := State.slotsFit) (fun t e => ?_) r.entries _ hs)
      refine slotsFit_of (by rw [(sameHost_restorePort e t).1]) fun q hq => ?_
      rw [port_restorePort] at hq
      split at hq
      · cases hq
      · exact hq
  figures s := slotsFit_of rfl fun q hq => hq
  shed s p _ := slotsFit_onePort (p := p) (by rw [(sameHost_shedPort p s).1])
    (fun h => by rw [port_shedPort, if_pos rfl] at h; cases h) fun q hq => by rw [port_shedPort, if_neg hq]
  batch s k b _ := slotsFit_of (by rw [(sameHost_makeBatch k b s).1]) fun q hq => by rwa [port_makeBatch] at hq

theorem slotsFit_moves : KeptByMoves State.slotsFit where
  toKeptByRunning := slotsFit_evaluation.toKeptByRuns.running
  settle s p f _ _ hf := slotsFit_onePort (p := p) rfl
    (fun h => by rw [port_updPort_self] at h; exact absurd h (ne_of_idle hf.idle rfl)) fun q hq => port_updPort_ne s f hq
  leave s p f _ hf := slotsFit_onePort (p := p) (by simp)
    (fun h => by rw [port_left, if_pos rfl] at h; exact absurd h (ne_of_idle hf.idle rfl)) fun q hq => by rw [port_left, if_neg hq]
  release s p f _ hf := slotsFit_onePort (p := p) (by simp)
    (fun h => by rw [port_released, if_pos rfl] at h; exact absurd h (ne_of_idle hf.idle rfl))
    fun q hq => by rw [port_released, if_neg hq]
  disable s p f _ hf := slotsFit_onePort (p := p) (by simp)
    (fun h => by rw [port_disabled, if_pos rfl] at h; exact absurd h (ne_of_idle hf.idle rfl))
    fun q hq => by rw [port_disabled, if_neg hq]
  unshed s p f _ hf := slotsFit_onePort (p := p) rfl
    (fun h => by rw [port_unshed, if_pos rfl] at h; exact absurd h (ne_of_idle hf.idle rfl))
    fun q hq => by rw [port_unshed, if_neg hq]
  join s p _ := slotsFit_onePort (p := p) (by rw [(sameHost_enterQueued p s).1])
    (fun h => by rw [port_enterQueued, if_pos rfl] at h; cases h) fun q hq => by rw [port_enterQueued, if_neg hq]
  ramp s p _ := slotsFit_onePort (p := p) (by simp)
    (fun h => by rw [port_enterOn, if_pos rfl] at h; cases h) fun q hq => by rw [port_enterOn, if_neg hq]
  recycle s c _ := slotsFit_onePort (p := ceilingPort c) (by rw [(sameHost_enterRecycle _ s).1])
    (fun h => by rw [port_enterRecycle, if_pos rfl] at h; cases h) fun q hq => by rw [port_enterRecycle, if_neg hq]
  await s c _ _ := slotsFit_onePort (p := ceilingPort c) (by simp)
    (fun h => by rw [port_awaited, if_pos rfl] at h; exact h) fun q hq => by rw [port_awaited, if_neg hq]

theorem slotsFit_portwise : KeptPortwise fun _ => State.slotsFit where
  moves _ := slotsFit_moves
  settings _ _ _ _ hg _ := slotsFit_of hg fun _ hq => hq
  priority _ s p := by
    have hreprice := slotsFit_of (s := s) (t := s.repriceEntry p (s.priorityOf p)) rfl fun _ hq => hq
    unfold State.applyPriority
    dsimp only
    split
    next hg => exact fun hs => slotsFit_moves.unshed _ p _ hg.1 ⟨rfl, nofun, fun hm => ⟨hm, fun _ => rfl⟩⟩ (hreprice hs)
    · exact hreprice

theorem slotsFit_of_sameStanding {s t : State} (h : s.SameStanding t) (hs : s.slotsFit) : t.slotsFit :=
  ⟨h.slots ▸ hs.1, (inrushCount_le fun q hq => (h.ports q).1 ▸ hq).trans hs.2⟩

theorem slotsFit_standing : KeptByStanding State.slotsFit where
  toKeptByMoves := slotsFit_moves
  toKeptByQuiet := keptByQuiet_of_standing fun _ _ => slotsFit_of_sameStanding
  supply := supply_of_standing fun _ _ => slotsFit_of_sameStanding
  imposedCap := imposedCap_of_standing fun _ _ => slotsFit_of_sameStanding
  settings := settings_of_standing fun _ _ => slotsFit_of_sameStanding
  evaluate := evaluate_keeps slotsFit_evaluation
  wake _ _ _ _ := slotsFit_of rfl fun _ hq => hq
  heldSettings _ _ _ hg := slotsFit_of hg fun _ hq => hq
  slots _ _ hs := ⟨(clamp_range (by decide) _).2, hs.2⟩
  storePriority s p x hr hx hs := by
    rw [storePort_inForce hr, if_neg hx]
    exact evaluate_keeps slotsFit_evaluation _ _ (slotsFit_portwise.storeAdmin hr hs)
  switchRunning s i hr hs := by
    rw [switchProfile_running hr]
    exact evaluate_keeps slotsFit_evaluation _ _ (slotsFit_portwise.switchPriorities i hr hs)
  blank u free pending _ := by
    refine ⟨show Settings.builtIn.timing.inrushSlots ≤ 4 by decide, ?_⟩
    rw [inrushCount_eq, List.countP_eq_zero.mpr fun p _ => by rw [port_blank]; decide]
    exact Nat.zero_le 4

theorem inrushSlots_le {t : Timing} (h : t.inRange) : t.inrushSlots ≤ 4 := by
  obtain ⟨-, -, -, -, -, -, -, -, -, -, -, -, ⟨-, hslots⟩, -⟩ := h
  exact hslots

/-- Settles O57: a grant or a move out of waiting takes the port's entry along, an entry is placed under the priority in force, and a grant finds a slot
free. -/
theorem everyStepKeepsTheQueueExact : Obligations.EveryStepKeepsTheQueueExact := fun s t ht =>
  ⟨fun hs => queueExact_shape.step hs ht,
    fun hh hs => pricedOn_true.mp (pricedOn_standing.commands.step ⟨hh, pricedOn_true.mpr hs⟩ ht).2,
    fun hg hs => by
      obtain ⟨-, -, htiming, -⟩ := hg
      exact (slotsFit_standing.commands.step ⟨inrushSlots_le htiming, hs⟩ ht).2⟩

end Sys2Proof.Machine
end

section
/-! PROOFS. Shedding: the shed step as a fold over the candidates it takes (R126), the batch and the stack (R127 to R129), the pop of a record (R133), the
stack's invariants (R123, R138), and the budget's (R93). -/

namespace Sys2Proof.Machine

/-! ### The candidates -/

/-- With an exact commit list the candidates are the committed ports of priority 3, 2 and 1, latest grant first (R125). -/
theorem candidates_eq {s : State} (hs : s.commitExact) : s.candidates =
    ([3, 2, 1] : List Priority).flatMap fun k => s.ledger.commitList.reverse.filter fun p => s.priorityOf p == k := by
  have hat : ∀ k, s.candidatesAt k = s.ledger.commitList.reverse.filter fun p => s.priorityOf p == k := fun k =>
    List.filter_congr fun p hp => by
      rw [(hs.2 p).mp (List.mem_reverse.mp hp), Bool.and_true]
  simp [State.candidates, hat]

theorem nodup_candidates {s : State} (hs : s.commitExact) : s.candidates.Nodup := by
  rw [candidates_eq hs, List.nodup_flatMap]
  refine ⟨fun k _ => (List.nodup_reverse.mpr hs.1).filter _, ?_⟩
  refine (show ([3, 2, 1] : List Priority).Pairwise (· ≠ ·) by decide).imp fun {a b} hab p ha hb => ?_
  have ha := (List.mem_filter.mp ha).2
  have hb := (List.mem_filter.mp hb).2
  rw [beq_iff_eq] at ha hb
  exact hab (ha.symm.trans hb)

/-! ### Ports shed one after another -/

/-- A record as its shed leaves it (R33, R126). -/
def PortRecord.shedded (r : PortRecord) : PortRecord :=
  ({ r with
    switch := .off, currentLimit := none, allocation := none, capped := false
    supervision := .unsupervised, tolerance := .idle, excursion := none } : PortRecord).enter .shed

theorem port_sheds (l : List Port) (s : State) (q : Port) :
    (l.foldl State.shedPort s).port q = if q ∈ l then (s.port q).shedded else s.port q := by
  induction l generalizing s with
  | nil => simp
  | cons p l ih =>
    rw [List.foldl_cons, ih, port_shedPort]
    by_cases hp : q = p
    · subst hp; simp [PortRecord.shedded, PortRecord.enter]
    · simp [hp]

theorem ledger_shedPort (s : State) (p : Port) :
    (s.shedPort p).ledger = { s.ledger with commitList := s.ledger.commitList.filter (· != p) } := by
  unfold State.shedPort
  rw [updPort_ledger, ledger_release, leaveQueue_ledger]

theorem ledger_sheds (l : List Port) (s : State) :
    (l.foldl State.shedPort s).ledger = { s.ledger with commitList := s.ledger.commitList.filter fun p => decide (p ∉ l) } := by
  induction l generalizing s with
  | nil => simp
  | cons p l ih =>
    rw [List.foldl_cons, ih, ledger_shedPort, List.filter_filter]
    have hfilter : (s.ledger.commitList.filter fun q => decide (q ∉ l) && (q != p)) = s.ledger.commitList.filter fun q => decide (q ∉ p :: l) :=
      List.filter_congr fun q _ => by by_cases hq : q = p <;> simp [hq]
    rw [hfilter]

theorem stack_shedPort (s : State) (p : Port) : (s.shedPort p).stack = s.stack := by simp [State.shedPort]

theorem stack_sheds (l : List Port) (s : State) : (l.foldl State.shedPort s).stack = s.stack :=
  foldl_keeps (P := fun t : State => t.stack = s.stack) (fun t p ht => (stack_shedPort t p).trans ht) l s rfl

theorem sameHost_sheds (l : List Port) (s : State) : s.sameHost (l.foldl State.shedPort s) :=
  foldl_keeps (P := fun t => s.sameHost t) (fun t p ht => sameHost_trans ht (sameHost_shedPort p t)) l s (sameHost_refl s)

/-- Committed falls by a committed port's allocation as the port leaves the list (R92). -/
theorem sum_filter_ne {l : List Port} (hl : l.Nodup) {p : Port} (hp : p ∈ l) (f : Port → Nat) :
    ((l.filter (· != p)).map f).sum + f p = (l.map f).sum := by
  rw [← hl.erase_eq_filter, Nat.add_comm, List.sum_map_erase f hp]

/-- Committed falls by what the ports shed held (R126). -/
theorem committed_sheds {l : List Port} (hl : l.Nodup) : ∀ {s : State}, s.ledger.commitList.Nodup → (∀ p ∈ l, p ∈ s.ledger.commitList) →
    (l.foldl State.shedPort s).committed + (l.map s.allocationOf).sum = s.committed := by
  induction l with
  | nil => intro s _ _; simp
  | cons p l ih =>
    intro s hnd hmem
    obtain ⟨hpl, hl⟩ := List.nodup_cons.mp hl
    obtain ⟨hp, hmem⟩ := List.forall_mem_cons.mp hmem
    have hledger : (s.shedPort p).ledger.commitList = s.ledger.commitList.filter (· != p) := by rw [ledger_shedPort]
    have hother : ∀ q, q ≠ p → (s.shedPort p).allocationOf q = s.allocationOf q := fun q hq => by
      unfold State.allocationOf; rw [port_shedPort, if_neg hq]
    have hrest := ih hl (s := s.shedPort p) (by rw [hledger]; exact hnd.filter _) fun q hq => by
      rw [hledger, List.mem_filter]
      exact ⟨hmem q hq, bne_iff_ne.mpr fun h => hpl (h ▸ hq)⟩
    have hsum : (l.map (s.shedPort p).allocationOf).sum = (l.map s.allocationOf).sum :=
      congrArg _ (List.map_congr_left fun q hq => hother q fun h => hpl (h ▸ hq))
    have hone : (s.shedPort p).committed + s.allocationOf p = s.committed := by
      unfold State.committed
      rw [hledger, ← sum_filter_ne hnd hp s.allocationOf]
      congr 2
      refine List.map_congr_left fun q hq => hother q ?_
      simpa using (List.mem_filter.mp hq).2
    rw [List.foldl_cons, List.map_cons, List.sum_cons]
    omega

/-- The shed step takes a first part of its candidates, with their allocations, until C is at or below A or none remains (R126). -/
theorem shedStep_eq (ps : List Port) : ∀ (b : List ShedEntry) (s : State), ps.Nodup → ∃ n,
    shedStep ps b s = (b ++ (ps.take n).map (fun p => ⟨p, s.allocationOf p⟩), (ps.take n).foldl State.shedPort s)
      ∧ (((ps.take n).foldl State.shedPort s).committed ≤ s.ledger.available ∨ ps.length ≤ n)
      ∧ ∀ m, m < n → m < ps.length → s.ledger.available < ((ps.take m).foldl State.shedPort s).committed := by
  induction ps with
  | nil => exact fun b s _ => ⟨0, by simp [shedStep], .inr (Nat.zero_le _), fun m hm => absurd hm (Nat.not_lt_zero m)⟩
  | cons p ps ih =>
    intro b s hnd
    obtain ⟨hp, hps⟩ := List.nodup_cons.mp hnd
    unfold shedStep
    split
    next hc => exact ⟨0, by simp, .inl hc, fun m hm => absurd hm (Nat.not_lt_zero m)⟩
    next hc =>
      obtain ⟨n, heq, hstop, hgo⟩ := ih (b ++ [⟨p, s.allocationOf p⟩]) (s.shedPort p) hps
      have havail : (s.shedPort p).ledger.available = s.ledger.available := by rw [ledger_shedPort]
      refine ⟨n + 1, ?_, ?_, fun m hm hlen => ?_⟩
      · have hmap : (ps.take n).map (fun q => (⟨q, (s.shedPort p).allocationOf q⟩ : ShedEntry))
            = (ps.take n).map fun q => ⟨q, s.allocationOf q⟩ := List.map_congr_left fun q hq => by
          have hqp : q ≠ p := fun h => hp (h ▸ List.mem_of_mem_take hq)
          unfold State.allocationOf
          rw [port_shedPort, if_neg hqp]
        rw [heq, hmap]
        simp
      · rw [havail] at hstop
        simpa using hstop
      · cases m with
        | zero => simpa using hc
        | succ m =>
          rw [havail] at hgo
          simpa using hgo m (by omega) (by simpa using hlen)

/-- Settles O46: each port taken leaves the commit list with its allocation, and C was above A before each. -/
theorem shedStepStopsAtTheBudget : Obligations.ShedStepStopsAtTheBudget := by
  intro s hs
  dsimp only
  rw [← candidates_eq hs]
  obtain ⟨n, heq, hstop, hgo⟩ := shedStep_eq s.candidates [] s (nodup_candidates hs)
  have hcommitted : ∀ m, ((s.candidates.take m).foldl State.shedPort s).committed + ((s.candidates.take m).map s.allocationOf).sum
      = s.committed := fun m => committed_sheds ((nodup_candidates hs).sublist (List.take_sublist m _)) hs.1
    fun p hp => (mem_candidates.mp (List.mem_of_mem_take hp)).1
  rw [heq]
  refine ⟨n, rfl, hcommitted n, hstop, fun m hm hlen => ?_, fun p hp => ?_, fun p hp => ?_, ?_⟩
  · have := hgo m hm hlen
    have := hcommitted m
    omega
  · rw [port_sheds, if_pos hp]
    exact ⟨rfl, rfl⟩
  · rw [port_sheds, if_neg hp]
  · rw [ledger_sheds]

/-! ### The stack after a batch and after a pop -/

theorem stack_makeBatch (s : State) (k : ShedCause) (b : List ShedEntry) : (s.makeBatch k b).stack = (s.recordBatch k b).stack := by
  have hstack : ((s.clearMarks).recordBatch k b).stack = (s.recordBatch k b).stack := by
    unfold State.recordBatch
    rw [clearMarks_stack]
    split
    · split <;> rfl
    · rfl
  unfold State.makeBatch
  dsimp only
  split <;> simp [hstack]

/-- A batch is pushed while fewer than 6 records stand (R128). -/
theorem stack_makeBatch_push {s : State} (h : s.stack.length < 6) (k : ShedCause) (b : List ShedEntry) :
    (s.makeBatch k b).stack = ⟨k, false, s.freshHold, b⟩ :: s.stack := by
  rw [stack_makeBatch]
  unfold State.recordBatch
  split
  · exact congrArg State.stack (if_pos h)
  next hnil => simp [hnil]

/-- A batch is merged into the top record otherwise (R129). -/
theorem stack_makeBatch_merge {s : State} {top : ShedRecord} {below : List ShedRecord} (hst : s.stack = top :: below)
    (h : 6 ≤ s.stack.length) (k : ShedCause) (b : List ShedEntry) :
    (s.makeBatch k b).stack = { top with merged := true, hold := s.freshHold, entries := top.entries ++ b } :: below := by
  rw [stack_makeBatch]
  unfold State.recordBatch
  rw [hst]
  dsimp only
  rw [if_neg (by rw [← hst]; exact Nat.not_lt_of_le h)]

/-- The ports listed after a batch are those listed before and those of the batch. -/
theorem listedPorts_makeBatch (s : State) (k : ShedCause) (b : List ShedEntry) :
    (s.makeBatch k b).listedPorts.Perm (b.map (·.port) ++ s.listedPorts) := by
  unfold State.listedPorts
  by_cases h : s.stack.length < 6
  · rw [stack_makeBatch_push h]
    exact .of_eq rfl
  · cases hst : s.stack with
    | nil => rw [hst] at h; simp at h
    | cons top below =>
      rw [stack_makeBatch_merge hst (Nat.le_of_not_lt h), List.flatMap_cons, List.flatMap_cons, List.map_append, ← List.append_assoc]
      exact List.perm_append_comm.append_right _

/-- A restored port's record: in SEARCH with a probe, and a mark for its allocation at shed (R133). -/
def State.restored (s : State) (r : PortRecord) (allocation : Nat) : PortRecord :=
  { r.enter .search with
    switch := .off, operation := .probe, countdown := loadMs s.settings.timing.detectionInterval, mark := some allocation }

/-- A pop leaves a port that the record does not list. -/
theorem port_restores_other {l : List ShedEntry} {q : Port} (hq : q ∉ l.map (·.port)) (s : State) :
    (l.foldl State.restorePort s).port q = s.port q := by
  induction l generalizing s with
  | nil => rfl
  | cons e l ih =>
    rw [List.map_cons, List.mem_cons, not_or] at hq
    rw [List.foldl_cons, ih hq.2, port_restorePort, if_neg fun h => hq.1 h.1]

/-- A pop restores each port that the record lists, if it is in SHED (R133). -/
theorem port_restores_listed {l : List ShedEntry} (hl : (l.map (·.port)).Nodup) {e : ShedEntry} (he : e ∈ l) (s : State) :
    (s.port e.port).state = .shed → (l.foldl State.restorePort s).port e.port = s.restored (s.port e.port) e.allocation := by
  induction l generalizing s with
  | nil => cases he
  | cons x l ih =>
    intro hst
    obtain ⟨hx, hl⟩ := List.nodup_cons.mp hl
    rw [List.foldl_cons]
    obtain rfl | he := List.mem_cons.mp he
    · rw [port_restores_other hx, port_restorePort, if_pos ⟨rfl, hst⟩]
      rfl
    · have hne : e.port ≠ x.port := fun h => hx (List.mem_map.mpr ⟨e, he, h⟩)
      have hsame : (s.restorePort x).port e.port = s.port e.port := by rw [port_restorePort, if_neg fun h => hne h.1]
      rw [ih hl he _ (by rw [hsame]; exact hst), hsame, State.restored, (sameHost_restorePort x s).1]
      rfl

theorem popRecord_of_cons {s : State} {r : ShedRecord} {below : List ShedRecord} (h : s.stack = r :: below) :
    s.popRecord = (r.entries.foldl State.restorePort { s with stack := below }).post (.restored r.entries.length r.total) := by
  unfold State.popRecord
  rw [h]

theorem stack_foldl_restorePort (l : List ShedEntry) (s : State) : (l.foldl State.restorePort s).stack = s.stack :=
  foldl_keeps (P := fun t : State => t.stack = s.stack) (fun t e ht => by
    unfold State.restorePort
    split
    · simpa using ht
    · exact ht) l s rfl

theorem stack_popRecord {s : State} {r : ShedRecord} {below : List ShedRecord} (h : s.stack = r :: below) :
    s.popRecord.stack = below := by
  rw [popRecord_of_cons h, post_stack, stack_foldl_restorePort]

/-! ### The stack's invariants -/

theorem listedPorts_eq (s : State) : s.listedPorts = (s.stack.map (·.entries)).flatMap fun l => l.map (·.port) := by
  unfold State.listedPorts
  rw [List.flatMap_map]

/-- The stack within its places and without an empty record, and the SHED ports exactly those it lists (R123). -/
def State.stackExact (s : State) : Prop := s.stackFits ∧ s.shedListed

theorem stackFits_congr {s t : State} (h : t.stack.map (·.entries) = s.stack.map (·.entries)) (hs : s.stackFits) : t.stackFits := by
  obtain ⟨hlen, hne⟩ := hs
  have hlength := congrArg List.length h
  simp only [List.length_map] at hlength
  refine ⟨hlength ▸ hlen, fun r hr => ?_⟩
  have : r.entries ∈ s.stack.map (·.entries) := h ▸ List.mem_map_of_mem hr
  obtain ⟨r', hr', he⟩ := List.mem_map.mp this
  exact he ▸ hne r' hr'

section
variable {s t : State}

theorem stackExact_same (h : t.stack.map (·.entries) = s.stack.map (·.entries))
    (hp : ∀ q, (t.port q).state = .shed ↔ (s.port q).state = .shed) (hs : s.stackExact) : t.stackExact := by
  obtain ⟨hfit, hnd, hmem⟩ := hs
  refine ⟨stackFits_congr h hfit, ?_⟩
  unfold State.shedListed
  rw [listedPorts_eq, h, ← listedPorts_eq]
  exact ⟨hnd, fun p => by rw [hmem, hp]⟩

/-- One port's record changes, out of SHED before and after. -/
theorem stackExact_onePort {p : Port} (h : t.stack = s.stack) (hold : (s.port p).state ≠ .shed) (hnew : (t.port p).state ≠ .shed)
    (hp : ∀ q, q ≠ p → t.port q = s.port q) : s.stackExact → t.stackExact :=
  stackExact_same (by rw [h]) fun q => by
    by_cases hq : q = p
    · subst hq; exact iff_of_false hnew hold
    · rw [hp q hq]

end

/-- A shrunk record lists the ports but for the one that left (R137). -/
theorem listedPorts_shrinkRecord (s : State) (p : Port) : (s.shrinkRecord p).listedPorts = s.listedPorts.filter (· != p) := by
  unfold State.listedPorts State.shrinkRecord
  dsimp only
  induction s.stack with
  | nil => rfl
  | cons r l ih =>
    have hports : (r.entries.map (·.port)).filter (· != p) = (r.entries.filter fun e => e.port != p).map (·.port) :=
      List.filter_map ..
    rw [List.map_cons, List.filter_cons, List.flatMap_cons, List.filter_append, ← ih, hports]
    cases r.entries.filter fun e => e.port != p with
    | nil => rfl
    | cons e es => rfl

theorem stackFits_shrinkRecord {s : State} (p : Port) (hs : s.stackFits) : (s.shrinkRecord p).stackFits := by
  refine ⟨(List.length_filter_le _ _).trans (by simpa using hs.1), fun r hr => ?_⟩
  have := (List.mem_filter.mp hr).2
  simpa using this

/-- A SHED port that leaves its record leaves SHED (R137). -/
theorem stackExact_unshed {s : State} {p : Port} {f : PortRecord → PortRecord} (hnew : (f (s.port p)).state ≠ .shed)
    (hs : s.stackExact) : ((s.shrinkRecord p).updPort p f).stackExact := by
  obtain ⟨hfit, hnd, hmem⟩ := hs
  refine ⟨stackFits_shrinkRecord p hfit, ?_⟩
  have hlisted : ((s.shrinkRecord p).updPort p f).listedPorts = s.listedPorts.filter (· != p) := listedPorts_shrinkRecord s p
  refine ⟨hlisted ▸ hnd.filter _, fun q => ?_⟩
  rw [hlisted, List.mem_filter, hmem, port_unshed]
  by_cases hq : q = p
  · simp [hq, hnew]
  · simp [hq]

theorem stackExact_popRecord {s : State} (hs : s.stackExact) : s.popRecord.stackExact := by
  cases hst : s.stack with
  | nil =>
    unfold State.popRecord
    rw [hst]
    exact hs
  | cons r below =>
    obtain ⟨⟨hlen, hne⟩, hnd, hmem⟩ := hs
    have hlisted : s.listedPorts = r.entries.map (·.port) ++ s.popRecord.listedPorts := by
      unfold State.listedPorts
      rw [stack_popRecord hst, hst, List.flatMap_cons]
    rw [hlisted] at hnd hmem
    obtain ⟨hr, hbelow, hdisj⟩ := List.nodup_append'.mp hnd
    refine ⟨⟨?_, fun x hx => hne x ?_⟩, hbelow, fun q => ?_⟩
    · rw [stack_popRecord hst]
      rw [hst] at hlen
      exact (Nat.le_succ _).trans hlen
    · rw [stack_popRecord hst] at hx
      rw [hst]
      exact List.mem_cons_of_mem r hx
    · rw [popRecord_of_cons hst, port_post, ← popRecord_of_cons hst]
      have hq := hmem q
      by_cases hqr : q ∈ r.entries.map (·.port)
      · have hshed : (s.port q).state = .shed := (hmem q).mp (List.mem_append_left _ hqr)
        obtain ⟨e, he, rfl⟩ := List.mem_map.mp hqr
        refine iff_of_false (fun h => hdisj hqr h) ?_
        rw [port_restores_listed hr he { s with stack := below } hshed]
        nofun
      · rw [port_restores_other hqr]
        exact ⟨fun h => hq.mp (List.mem_append_right _ h), fun h => (List.mem_append.mp (hq.mpr h)).resolve_left hqr⟩

theorem shed_grant {s t : State} (h : ∀ q, t.port q = s.port q ∨ ((t.port q).state = .inrush ∧ (s.port q).state ≠ .shed)) (q : Port) :
    (t.port q).state = .shed ↔ (s.port q).state = .shed := by
  obtain hq | ⟨ht, hs⟩ := h q
  · rw [hq]
  · exact iff_of_false (by rw [ht]; nofun) hs

theorem stackExact_runs : KeptByRuns State.stackExact where
  queued s e _ _ _ := stackExact_same (by rw [stack_grantQueued]) (shed_grant fun q => by
    rw [port_grantQueued]
    split
    next h => exact .inr ⟨rfl, by rw [h.1, h.2]; nofun⟩
    · exact .inl rfl)
  reserved s e _ _ := stackExact_same (by rw [stack_grantReserved]) (shed_grant fun q => by
    rw [port_grantReserved]
    split
    next h => exact .inr ⟨rfl, by rw [h.1, h.2.1]; nofun⟩
    · exact .inl rfl)
  passes s l := stackExact_same rfl fun q => Iff.rfl
  pop s _ := stackExact_popRecord

theorem stackExact_moves : KeptByMoves State.stackExact where
  toKeptByRunning := stackExact_runs.running
  settle s p f hi _ hf := stackExact_onePort (p := p) rfl (ne_of_idle hi rfl) (by rw [port_updPort_self]; exact ne_of_idle hf.idle rfl)
    fun q hq => port_updPort_ne s f hq
  leave s p f hst hf := stackExact_onePort (p := p) (by simp) (by rw [hst]; nofun)
    (by rw [port_left, if_pos rfl]; exact ne_of_idle hf.idle rfl) fun q hq => by rw [port_left, if_neg hq]
  release s p f hst hf := stackExact_onePort (p := p) (by simp) (by rintro h; rw [h] at hst; simp at hst)
    (by rw [port_released, if_pos rfl]; exact ne_of_idle hf.idle rfl) fun q hq => by rw [port_released, if_neg hq]
  disable s p f hst hf := stackExact_onePort (p := p) (by simp) (by rintro h; rw [h] at hst; cases hst)
    (by rw [port_disabled, if_pos rfl]; exact ne_of_idle hf.idle rfl) fun q hq => by rw [port_disabled, if_neg hq]
  unshed s p f _ hf := stackExact_unshed (ne_of_idle hf.idle rfl)
  join s p hst := stackExact_onePort (p := p) (by simp [State.enterQueued]) (by rw [hst]; nofun)
    (by rw [port_enterQueued, if_pos rfl]; nofun) fun q hq => by rw [port_enterQueued, if_neg hq]
  ramp s p hst := stackExact_onePort (p := p) (by simp) (by rw [hst]; nofun)
    (by rw [port_enterOn, if_pos rfl]; nofun) fun q hq => by rw [port_enterOn, if_neg hq]
  recycle s c hst := stackExact_onePort (p := ceilingPort c) (by simp [State.enterRecycle]) (by rw [hst]; nofun)
    (by rw [port_enterRecycle, if_pos rfl]; nofun) fun q hq => by rw [port_enterRecycle, if_neg hq]
  await s c hst _ := stackExact_onePort (p := ceilingPort c) (by simp) (by rw [hst]; nofun)
    (by rw [port_awaited, if_pos rfl, hst]; nofun) fun q hq => by rw [port_awaited, if_neg hq]

/-- A batch of an evaluation lists the ports that its shed step has sent to SHED (R123, R127). -/
theorem stackExact_shed {s : State} (hc : s.commitExact) (hs : s.stackExact) {l : List Port} (hl : l.Nodup)
    (hmem : ∀ p ∈ l, p ∈ s.ledger.commitList) (hne : l ≠ []) (k : ShedCause) :
    ((l.foldl State.shedPort s).makeBatch k (l.map fun p => ⟨p, s.allocationOf p⟩)).stackExact := by
  obtain ⟨⟨hlen, hentries⟩, hnd, hlisted⟩ := hs
  have hstack := stack_sheds l s
  have hports : (l.map fun p => (⟨p, s.allocationOf p⟩ : ShedEntry)).map (·.port) = l := by simp [Function.comp_def]
  have hperm := listedPorts_makeBatch (l.foldl State.shedPort s) k (l.map fun p => ⟨p, s.allocationOf p⟩)
  have hold : (l.foldl State.shedPort s).listedPorts = s.listedPorts := by unfold State.listedPorts; rw [hstack]
  rw [hports, hold] at hperm
  have hdisj : ∀ p ∈ l, p ∉ s.listedPorts := fun p hp h => by
    have hcommitted := (hc.2 p).mp (hmem p hp)
    rw [(hlisted p).mp h] at hcommitted
    cases hcommitted
  refine ⟨?fits, hperm.nodup_iff.mpr (List.nodup_append'.mpr ⟨hl, hnd, hdisj⟩), fun p => ?_⟩
  case fits =>
    have hbatch : (l.map fun p => (⟨p, s.allocationOf p⟩ : ShedEntry)) ≠ [] := by simpa using hne
    by_cases h : s.stack.length < 6
    · refine ⟨?_, ?_⟩ <;> rw [stack_makeBatch_push (by rwa [hstack]), hstack]
      · exact h
      · exact List.forall_mem_cons.mpr ⟨hbatch, hentries⟩
    · obtain ⟨top, below, hst⟩ := List.exists_cons_of_length_pos (show 0 < s.stack.length by omega)
      rw [hst] at hlen hentries
      refine ⟨?_, ?_⟩ <;> rw [stack_makeBatch_merge (hstack.trans hst) (by rw [hstack]; omega)]
      · exact hlen
      · obtain ⟨-, hbelow⟩ := List.forall_mem_cons.mp hentries
        exact List.forall_mem_cons.mpr ⟨by simp [hne], hbelow⟩
  · rw [hperm.mem_iff, List.mem_append, hlisted, port_makeBatch, port_sheds]
    by_cases hp : p ∈ l
    · simp [hp, PortRecord.shedded, PortRecord.enter]
    · simp [hp]

theorem stackExact_evaluate (s : State) (k : ShedCause) (hc : s.commitExact) (hs : s.stackExact) : (s.evaluate k).stackExact := by
  have hcr : s.recompute.commitExact := commitExact_evaluation.figures s hc
  have hsr : s.recompute.stackExact := stackExact_same rfl (fun q => Iff.rfl) hs
  refine arbiterRun_keeps stackExact_runs _ ?_
  unfold State.shedOrRestore
  split
  · obtain ⟨n, heq, -⟩ := shedStep_eq s.recompute.candidates [] s.recompute (nodup_candidates hcr)
    rw [heq]
    dsimp only
    rw [List.nil_append]
    split
    next hnil =>
      rw [List.isEmpty_iff, List.map_eq_nil_iff] at hnil
      rw [hnil]
      exact hsr
    next hsome =>
      refine stackExact_shed hcr hsr ((nodup_candidates hcr).sublist (List.take_sublist n _)) (fun q hq => ?_) (fun hnil => ?_) k
      · exact (mem_candidates.mp (List.mem_of_mem_take hq)).1
      · exact hsome (by rw [hnil]; rfl)
  · exact restoreTest_keeps stackExact_runs _ hsr

theorem stackExact_shape : KeptByShape fun s => s.commitExact ∧ s.stackExact :=
  keptByShape_of_shape
    (fun s t h hs => ⟨commitExact_of_sameShape h hs.1, stackExact_same h.stack (fun q => by rw [(h.ports q).1]) hs.2⟩)
    (commitExact_moves.and stackExact_moves)
    (fun s p k hs => ⟨commitExact_shape.reprice s p k hs.1, stackExact_same rfl (fun q => Iff.rfl) hs.2⟩)
    (fun s k hs => ⟨commitExact_shape.evaluate s k hs.1, stackExact_evaluate s k hs.1 hs.2⟩)
    (fun s u hu hr hs => ⟨commitExact_shape.wake s u hu hr hs.1, stackExact_same rfl (fun q => Iff.rfl) hs.2⟩)
    fun u free pending hu => ⟨commitExact_blank u free pending, ⟨Nat.zero_le 6, nofun⟩, List.nodup_nil, fun p => by
      rw [port_blank]
      simp [State.listedPorts, State.blank, PortRecord.atReset]⟩

/-! ### Priority 0 and SHED -/

/-- None of these ports is in SHED with priority 0 in force (R138). -/
def State.spareOn (A : Port → Prop) (s : State) : Prop := ∀ p, A p → (s.port p).state = .shed → s.priorityOf p ≠ 0

theorem spareOn_true {s : State} : s.spareOn (fun _ => True) ↔ s.criticalNotShed :=
  ⟨fun h p => h p trivial, fun h p _ => h p⟩

section
variable {A : Port → Prop} {s t : State}

/-- No port has come to SHED. -/
theorem spareOn_of (hg : t.settings = s.settings) (h : ∀ q, (t.port q).state = .shed → (s.port q).state = .shed)
    (hs : s.spareOn A) : t.spareOn A := fun q hA hq => by
  rw [priorityOf_congr hg]
  exact hs q hA (h q hq)

theorem spareOn_onePort {p : Port} (hg : t.settings = s.settings) (hnew : (t.port p).state ≠ .shed)
    (hp : ∀ q, q ≠ p → t.port q = s.port q) : s.spareOn A → t.spareOn A :=
  spareOn_of hg fun q hq => by
    by_cases h : q = p
    · subst h; exact absurd hq hnew
    · rwa [hp q h] at hq

end

theorem spareOn_candidates (A : Port → Prop) : KeptByCandidates (State.spareOn A) where
  queued s e _ _ _ := spareOn_of (sameHost_grantQueued _ s).1 fun q hq => by
    rw [port_grantQueued] at hq
    split at hq
    · cases hq
    · exact hq
  reserved s e _ _ := spareOn_of (sameHost_grantReserved _ s).1 fun q hq => by
    rw [port_grantReserved] at hq
    split at hq
    · cases hq
    · exact hq
  passes s l := spareOn_of rfl fun q hq => hq
  pop s _ hs := by
    unfold State.popRecord
    split
    · exact hs
    next r below _ =>
      refine spareOn_of (s := r.entries.foldl State.restorePort { s with stack := below }) (by simp)
        (fun q hq => by rwa [port_post] at hq) (foldl_keeps (P := State.spareOn A) (fun t e => ?_) r.entries _ hs)
      refine spareOn_of (sameHost_restorePort e t).1 fun q hq => ?_
      rw [port_restorePort] at hq
      split at hq
      · cases hq
      · exact hq
  figures s := spareOn_of rfl fun q hq => hq
  shed s p _ hpri _ hs q hA hq := by
    rw [priorityOf_congr (sameHost_shedPort p s).1]
    by_cases h : q = p
    · subst h; exact hpri
    · rw [port_shedPort, if_neg h] at hq
      exact hs q hA hq
  batch s k b _ := spareOn_of (sameHost_makeBatch k b s).1 fun q hq => by rwa [port_makeBatch] at hq

theorem spareOn_moves (A : Port → Prop) : KeptByMoves (State.spareOn A) where
  toKeptByRunning := (spareOn_candidates A).toKeptByRuns.running
  settle s p f _ _ hf := spareOn_onePort (p := p) rfl (by rw [port_updPort_self]; exact ne_of_idle hf.idle rfl)
    fun q hq => port_updPort_ne s f hq
  leave s p f _ hf := spareOn_onePort (p := p) (by simp) (by rw [port_left, if_pos rfl]; exact ne_of_idle hf.idle rfl)
    fun q hq => by rw [port_left, if_neg hq]
  release s p f _ hf := spareOn_onePort (p := p) (by simp) (by rw [port_released, if_pos rfl]; exact ne_of_idle hf.idle rfl)
    fun q hq => by rw [port_released, if_neg hq]
  disable s p f _ hf := spareOn_onePort (p := p) (by simp) (by rw [port_disabled, if_pos rfl]; exact ne_of_idle hf.idle rfl)
    fun q hq => by rw [port_disabled, if_neg hq]
  unshed s p f _ hf := spareOn_onePort (p := p) rfl (by rw [port_unshed, if_pos rfl]; exact ne_of_idle hf.idle rfl)
    fun q hq => by rw [port_unshed, if_neg hq]
  join s p _ := spareOn_onePort (p := p) (sameHost_enterQueued p s).1 (by rw [port_enterQueued, if_pos rfl]; nofun)
    fun q hq => by rw [port_enterQueued, if_neg hq]
  ramp s p _ := spareOn_onePort (p := p) (by simp) (by rw [port_enterOn, if_pos rfl]; nofun)
    fun q hq => by rw [port_enterOn, if_neg hq]
  recycle s c _ := spareOn_onePort (p := ceilingPort c) (sameHost_enterRecycle _ s).1
    (by rw [port_enterRecycle, if_pos rfl]; nofun) fun q hq => by rw [port_enterRecycle, if_neg hq]
  await s c hst _ := spareOn_onePort (p := ceilingPort c) (by simp) (by rw [port_awaited, if_pos rfl, hst]; nofun)
    fun q hq => by rw [port_awaited, if_neg hq]

/-- A SHED port raised to priority 0 leaves SHED (R137). -/
theorem spareOn_applyPriority (A : Port → Prop) (s : State) (p : Port) (hs : s.spareOn A) :
    (s.applyPriority p (s.priorityOf p)).spareOn fun q => A q ∨ q = p := by
  have hothers : (s.repriceEntry p (s.priorityOf p)).spareOn A := spareOn_of rfl (fun q hq => hq) hs
  unfold State.applyPriority
  dsimp only
  split
  next h =>
    intro q hA hq
    rw [port_enterSearch] at hq
    split at hq
    · cases hq
    next hqp => exact hothers q (hA.resolve_right hqp) hq
  next h =>
    rintro q (hA | rfl) hq
    · exact hothers q hA hq
    · exact fun hp => h ⟨hq, hp⟩

theorem spareOn_portwise : KeptPortwise State.spareOn where
  moves := spareOn_moves
  settings _ _ _ _ _ hp hs p hB hst := by
    obtain ⟨hA, heq⟩ := hp p hB
    rw [heq]
    exact hs p hA hst
  priority := spareOn_applyPriority

theorem spareOn_standing : KeptByStanding fun s => s.heldQuiet ∧ s.spareOn fun _ => True :=
  spareOn_portwise.standing
    (fun s t h hs p hA hp => by
      rw [h.priority]
      exact hs p hA ((h.ports p).1 ▸ hp))
    (evaluate_keeps_candidates (spareOn_candidates _))
    (fun s g hu hh _ _ p _ hp => by
      have hdormant := (hh hu).1 p
      rw [show (s.port p).state = .shed from hp] at hdormant
      cases hdormant)
    (fun _ _ hs => hs) (fun _ _ hs => hs) fun u free pending p _ hp => by
      rw [port_blank] at hp
      cases hp

/-- Settles O59: a batch lists the ports that its shed step takes, a pop and a shrink send the ports they unlist out of SHED, and the shed step takes no
port of priority 0. -/
theorem everyStepKeepsTheShedStack : Obligations.EveryStepKeepsTheShedStack := fun _ _ ht =>
  ⟨fun hc hf hl => (stackExact_shape.step ⟨hc, hf, hl⟩ ht).2,
    fun hh hs => spareOn_true.mp (spareOn_standing.commands.step ⟨hh, spareOn_true.mpr hs⟩ ht).2⟩

end Sys2Proof.Machine
end

section
/-! PROOFS. Committed within the budget (R93): a grant fits, a release takes its allocation along, and an evaluation sheds until C is at or below A or
nothing but priority 0 is left. -/

namespace Sys2Proof.Machine

section
variable {s t : State}

/-- The same ports committed, with the same allocations and priorities, against the same Available. -/
theorem withinBudget_same (hl : t.ledger.commitList = s.ledger.commitList) (ha : t.ledger.available = s.ledger.available)
    (hp : ∀ q, t.priorityOf q = s.priorityOf q) (hq : ∀ q ∈ s.ledger.commitList, t.allocationOf q = s.allocationOf q)
    (hs : s.withinBudget) : t.withinBudget := by
  have hcommitted : t.committed = s.committed := by
    unfold State.committed
    rw [hl]
    exact congrArg _ (List.map_congr_left hq)
  have hcritical : t.committedCritical = s.committedCritical := by
    unfold State.committedCritical
    simp only [hl, hp]
    exact congrArg _ (List.map_congr_left fun q h => hq q (List.mem_of_mem_filter h))
  unfold State.withinBudget
  rwa [hcommitted, hcritical, ha]

/-- A committed port leaves the list with its allocation (R92). -/
theorem withinBudget_filter {p : Port} (hl : t.ledger.commitList = s.ledger.commitList.filter (· != p)) (hnd : s.ledger.commitList.Nodup)
    (hmem : p ∈ s.ledger.commitList) (ha : t.ledger.available = s.ledger.available) (hp : ∀ q, t.priorityOf q = s.priorityOf q)
    (hq : ∀ q, q ≠ p → t.allocationOf q = s.allocationOf q) (hs : s.withinBudget) : t.withinBudget := by
  have hsame : ∀ l : List Port, (l.filter (· != p)).map t.allocationOf = (l.filter (· != p)).map s.allocationOf := fun l =>
    List.map_congr_left fun q h => hq q (by simpa using (List.mem_filter.mp h).2)
  have hcommitted : t.committed + s.allocationOf p = s.committed := by
    unfold State.committed
    rw [hl, hsame]
    exact sum_filter_ne hnd hmem _
  have hcritical : s.committedCritical ≤ t.committedCritical + s.allocationOf p := by
    unfold State.committedCritical
    simp only [hl, hp]
    rw [List.filter_comm, hsame]
    by_cases hcrit : p ∈ s.ledger.commitList.filter fun q => s.priorityOf q == 0
    · exact (sum_filter_ne (hnd.filter _) hcrit _).ge
    · have hall : (s.ledger.commitList.filter fun q => s.priorityOf q == 0).filter (· != p)
          = s.ledger.commitList.filter fun q => s.priorityOf q == 0 :=
        List.filter_eq_self.mpr fun q h => bne_iff_ne.mpr fun e => hcrit (e ▸ h)
      rw [hall]
      exact Nat.le_add_right _ _
  unfold State.withinBudget at *
  rw [ha]
  omega

end

/-! ### Grants -/

theorem pledged_eq (s : State) : s.pledged = (allPorts.map fun p => (s.port p).mark.getD 0).sum := by
  unfold State.pledged
  rw [ports_toList, List.map_map]
  rfl

/-- A port's own pledge is part of Pledged (R94). -/
theorem mark_le_pledged (s : State) (p : Port) : (s.port p).mark.getD 0 ≤ s.pledged := by
  rw [pledged_eq]
  exact List.le_sum_of_mem (List.mem_map.mpr ⟨p, by simp [allPorts], rfl⟩)

/-- An entry that fits leaves C within A when it is granted (R98). -/
theorem committed_le_of_fits {s : State} {e : QueueEntry} (h : s.fits e = true) :
    s.committed + (s.computeAllocation e.port).1 ≤ s.ledger.available := by
  have hmark := mark_le_pledged s e.port
  rw [fits_iff] at h
  unfold State.freeFigure at h
  dsimp only at h
  split at h
  · omega
  · split at h <;> omega
  · omega

theorem committed_grantQueued {s : State} {p : Port} (hc : s.commitExact) (hst : (s.port p).state = .queued) :
    (s.grantQueued p).committed = s.committed + (s.computeAllocation p).1 := by
  have hout : p ∉ s.ledger.commitList := fun h => by
    have := (hc.2 p).mp h
    rw [hst] at this
    cases this
  have hp : (s.grantQueued p).allocationOf p = (s.computeAllocation p).1 := by
    unfold State.allocationOf
    rw [port_grantQueued, if_pos ⟨rfl, hst⟩]
    rfl
  unfold State.committed
  rw [commitList_grantQueued, if_pos hst, List.map_append, List.sum_append, List.map_singleton, List.sum_singleton, hp]
  congr 2
  refine List.map_congr_left fun q hq => ?_
  unfold State.allocationOf
  rw [port_grantQueued, if_neg fun h : q = p ∧ _ => hout (h.1 ▸ hq)]

/-- What an evaluation establishes and every grant and pop keeps. -/
def State.budgeted (s : State) : Prop := s.commitExact ∧ s.withinBudget

theorem available_grantQueued (s : State) (p : Port) : (s.grantQueued p).ledger.available = s.ledger.available := by
  unfold State.grantQueued
  dsimp only
  split <;> simp

theorem available_grantReserved (s : State) (p : Port) : (s.grantReserved p).ledger.available = s.ledger.available := by
  unfold State.grantReserved
  dsimp only
  split <;> simp

theorem budgeted_runs : KeptByRuns State.budgeted where
  queued s e _ hf _ hs := by
    obtain ⟨hc, hw⟩ := hs
    refine ⟨commitExact_grantQueued s e.port hc, ?_⟩
    by_cases hst : (s.port e.port).state = .queued
    · have hfit := committed_le_of_fits hf
      unfold State.withinBudget
      rw [committed_grantQueued hc hst, available_grantQueued]
      exact hfit.trans (le_max_left _ _)
    · refine withinBudget_same ?_ (available_grantQueued s e.port) (priorityOf_congr (sameHost_grantQueued e.port s).1) (fun q _ => ?_) hw
      · rw [commitList_grantQueued, if_neg hst]
      · unfold State.allocationOf
        rw [port_grantQueued, if_neg fun h => hst h.2]
  reserved s e _ _ hs := by
    obtain ⟨hc, hw⟩ := hs
    refine ⟨commitExact_grantReserved s e.port hc, withinBudget_same (by simp) (available_grantReserved s e.port)
      (priorityOf_congr (sameHost_grantReserved e.port s).1) (fun q _ => ?_) hw⟩
    unfold State.allocationOf
    rw [port_grantReserved]
    split
    next h => obtain ⟨rfl, -⟩ := h; rfl
    · rfl
  passes s l hs := ⟨commitExact_same rfl (fun _ => rfl) hs.1, withinBudget_same rfl rfl (fun _ => rfl) (fun _ _ => rfl) hs.2⟩
  pop s _ hs := by
    obtain ⟨hc, hw⟩ := hs
    refine ⟨commitExact_evaluation.pop s ‹_› hc, withinBudget_same (by simp) (by simp)
      (priorityOf_congr (sameHost_popRecord s).1) (fun q _ => ?_) hw⟩
    unfold State.popRecord
    split
    · rfl
    next r below _ =>
      unfold State.allocationOf
      rw [port_post]
      refine foldl_keeps (P := fun t : State => (t.port q).allocation.getD 0 = (s.port q).allocation.getD 0)
        (fun t e ht => ?_) r.entries _ rfl
      rw [port_restorePort]
      split
      next h => obtain ⟨rfl, -⟩ := h; exact ht
      · exact ht

/-! ### An evaluation -/

theorem ledger_makeBatch (s : State) (k : ShedCause) (b : List ShedEntry) : (s.makeBatch k b).ledger = s.ledger := by
  unfold State.makeBatch
  dsimp only
  split <;> simp

/-- After a shed step C is at or below A, or nothing of another priority than 0 is committed (R126). -/
theorem withinBudget_shedStep {s : State} (hc : s.commitExact) : (shedStep s.candidates [] s).2.withinBudget := by
  obtain ⟨n, heq, hstop, -⟩ := shedStep_eq s.candidates [] s (nodup_candidates hc)
  rw [heq]
  unfold State.withinBudget
  obtain hle | hlen := hstop
  · rw [ledger_sheds]
    exact hle.trans (le_max_left _ _)
  · refine le_trans (le_of_eq ?_) (le_max_right _ _)
    rw [List.take_of_length_le hlen]
    unfold State.committed State.committedCritical
    rw [List.filter_eq_self.mpr fun p hp => ?_]
    rw [ledger_sheds, List.mem_filter, decide_eq_true_eq] at hp
    rw [priorityOf_congr (sameHost_sheds s.candidates s).1, beq_iff_eq]
    by_contra hpri
    exact hp.2 (mem_candidates.mpr ⟨hp.1, hpri, (hc.2 p).mp hp.1⟩)

/-- Every evaluation with an exact commit list ends within the budget (R93). -/
theorem budgeted_evaluate (s : State) (k : ShedCause) (hc : s.commitExact) : (s.evaluate k).budgeted := by
  have hcr : s.recompute.commitExact := commitExact_evaluation.figures s hc
  refine arbiterRun_keeps budgeted_runs _ ?_
  unfold State.shedOrRestore
  split
  · have hshed := shedStep_keeps commitExact_evaluation.shed s.recompute.candidates [] _ hcr
    have hwithin := withinBudget_shedStep hcr
    dsimp only
    split
    · exact ⟨hshed, hwithin⟩
    next hne =>
      refine ⟨commitExact_evaluation.batch _ _ _ (by simpa using hne) hshed, withinBudget_same ?_ ?_
        (priorityOf_congr (sameHost_makeBatch k _ _).1) (fun q _ => ?_) hwithin⟩
      · rw [ledger_makeBatch]
      · rw [ledger_makeBatch]
      · unfold State.allocationOf
        rw [port_makeBatch]
  next hle => exact restoreTest_keeps budgeted_runs _ ⟨hcr, (Nat.le_of_not_lt hle).trans (le_max_left _ _)⟩

/-! ### The moves and the steps -/

theorem allocationOf_congr {s t : State} {q : Port} (h : t.port q = s.port q) : t.allocationOf q = s.allocationOf q := by
  unfold State.allocationOf; rw [h]

/-- A change of one port that is not committed leaves the allocations of the committed ones. -/
theorem budgeted_onePort {s t : State} {p : Port} (hold : (s.port p).state.committed = false)
    (hg : t.settings = s.settings) (hl : t.ledger = s.ledger) (hp : ∀ q, q ≠ p → t.port q = s.port q)
    (hc : s.commitExact → t.commitExact) (hs : s.budgeted) : t.budgeted := by
  obtain ⟨hcs, hw⟩ := hs
  refine ⟨hc hcs, withinBudget_same (by rw [hl]) (by rw [hl]) (priorityOf_congr hg) (fun q hq => allocationOf_congr (hp q ?_)) hw⟩
  rintro rfl
  have := (hcs.2 _).mp hq
  rw [hold] at this
  cases this

/-- A committed port that is released leaves C and the priority-0 sum with its allocation (R92). -/
theorem budgeted_released {s t : State} {p : Port} (hold : (s.port p).state.committed = true)
    (hg : t.settings = s.settings) (hl : t.ledger = { s.ledger with commitList := s.ledger.commitList.filter (· != p) })
    (hp : ∀ q, q ≠ p → t.port q = s.port q) (hc : s.commitExact → t.commitExact) (hs : s.budgeted) : t.budgeted := by
  obtain ⟨hcs, hw⟩ := hs
  exact ⟨hc hcs, withinBudget_filter (p := p) (by rw [hl]) hcs.1 ((hcs.2 p).mpr hold) (by rw [hl]) (priorityOf_congr hg)
    (fun q hq => allocationOf_congr (hp q hq)) hw⟩

/-- A change that keeps every allocation. -/
theorem budgeted_kept {s t : State} (hg : t.settings = s.settings) (hl : t.ledger = s.ledger)
    (hp : ∀ q, (t.port q).allocation = (s.port q).allocation) (hc : s.commitExact → t.commitExact) (hs : s.budgeted) : t.budgeted :=
  ⟨hc hs.1, withinBudget_same (by rw [hl]) (by rw [hl]) (priorityOf_congr hg)
    (fun q _ => by unfold State.allocationOf; rw [hp]) hs.2⟩

theorem budgeted_moves : KeptByMoves State.budgeted where
  toKeptByRunning := budgeted_runs.running
  settle s p f hi hd hf := budgeted_onePort (p := p) (not_committed_of_idle hi) rfl rfl (fun q hq => port_updPort_ne s f hq)
    (commitExact_moves.settle s p f hi hd hf)
  leave s p f hst hf := budgeted_onePort (p := p) (by rw [hst]; rfl) (by simp) (by simp)
    (fun q hq => by rw [port_left, if_neg hq]) (commitExact_moves.leave s p f hst hf)
  release s p f hst hf := budgeted_released (p := p) (by obtain h | h := hst <;> rw [h] <;> rfl) (by simp)
    (by rw [updPort_ledger, ledger_release]) (fun q hq => by rw [port_released, if_neg hq]) (commitExact_moves.release s p f hst hf)
  disable s p f hst hf := budgeted_released (p := p) hst (by simp) (by rw [updPort_ledger, ledger_release, leaveQueue_ledger])
    (fun q hq => by rw [port_disabled, if_neg hq]) (commitExact_moves.disable s p f hst hf)
  unshed s p f hst hf := budgeted_onePort (p := p) (by rw [hst]; rfl) rfl rfl (fun q hq => by rw [port_unshed, if_neg hq])
    (commitExact_moves.unshed s p f hst hf)
  join s p hst := budgeted_onePort (p := p) (by rw [hst]; rfl) (sameHost_enterQueued p s).1 (by simp [State.enterQueued])
    (fun q hq => by rw [port_enterQueued, if_neg hq]) (commitExact_moves.join s p hst)
  ramp s p hst := budgeted_kept (by simp) (by simp) (fun q => by
    rw [port_enterOn]
    split
    next h => rw [h]; rfl
    · rfl) (commitExact_moves.ramp s p hst)
  recycle s c hst := budgeted_kept (sameHost_enterRecycle _ s).1 (by simp [State.enterRecycle]) (fun q => by
    rw [port_enterRecycle]
    split
    next h => rw [h]; rfl
    · rfl) (commitExact_moves.recycle s c hst)
  await s c hst hph := budgeted_kept (by simp) (by simp) (fun q => by
    rw [port_awaited]
    split
    next h => rw [h]
    · rfl) (commitExact_moves.await s c hst hph)

theorem budgeted_of_sameStanding {s t : State} (h : s.SameStanding t) (hs : s.budgeted) : t.budgeted :=
  ⟨commitExact_of_sameShape h.toSameShape hs.1, withinBudget_same h.commitList h.available h.priority (fun q _ => by
    obtain ⟨-, -, hq, -⟩ := h.ports q
    unfold State.allocationOf
    rw [hq]) hs.2⟩

/-- Nothing is committed while the unit is HELD (R169). -/
theorem withinBudget_held {s : State} (hu : s.unit.unitState = .held) (hs : s.heldQuiet) : s.withinBudget := by
  obtain ⟨-, hlist, -⟩ := hs hu
  simp [State.withinBudget, State.committed, hlist]

theorem budgeted_standing : KeptByStanding fun s => s.heldQuiet ∧ s.budgeted where
  toKeptByMoves := heldQuiet_moves.and budgeted_moves
  toKeptByQuiet := heldQuiet_shape.toKeptByQuiet.and (keptByQuiet_of_standing fun _ _ => budgeted_of_sameStanding)
  supply s f hs := ⟨heldQuiet_shape.supply s f hs.1, supply_of_standing (fun _ _ => budgeted_of_sameStanding) s f hs.2⟩
  imposedCap s cap hs :=
    ⟨heldQuiet_shape.imposedCap s cap hs.1, imposedCap_of_standing (fun _ _ => budgeted_of_sameStanding) s cap hs.2⟩
  settings s g ht hp hs :=
    ⟨heldQuiet_shape.settings s g hs.1, settings_of_standing (fun _ _ => budgeted_of_sameStanding) s g ht hp hs.2⟩
  evaluate s k hs := ⟨heldQuiet_evaluate s k hs.1, budgeted_evaluate s k hs.2.1⟩
  wake s u hu hr hs := ⟨heldQuiet_shape.wake s u hu hr hs.1, hs.2⟩
  heldSettings s g hu _ hs := by
    have hquiet := heldQuiet_shape.settings s g hs.1
    exact ⟨hquiet, commitExact_shape.settings s g hs.2.1, withinBudget_held hu hquiet⟩
  slots s t hs := ⟨heldQuiet_shape.settings s _ hs.1, hs.2⟩
  storePriority s p x hr hx hs := by
    refine ⟨heldQuiet_shape.toStanding.storePriority s p x hr hx hs.1, ?_⟩
    rw [storePort_inForce hr, if_neg hx]
    exact budgeted_evaluate _ _ (commitExact_shape.repriced p x hr hs.2.1)
  switchRunning s i hr hs := by
    refine ⟨heldQuiet_shape.toStanding.switchRunning s i hr hs.1, ?_⟩
    rw [switchProfile_running hr]
    exact budgeted_evaluate _ _ (commitExact_shape.switchPriorities i hr hs.2.1)
  blank u free pending hu := by
    have hquiet := heldQuiet_shape.blank u free pending hu
    exact ⟨hquiet, commitExact_blank u free pending, withinBudget_held hu hquiet⟩

/-- Settles O54: C rises by a grant that fits alone, and whatever lowers A or changes a priority is followed by an evaluation. -/
theorem everyStepKeepsWithinTheBudget : Obligations.EveryStepKeepsWithinTheBudget := fun _ _ hc hh hw ht =>
  (budgeted_standing.commands.step ⟨hh, hc, hw⟩ ht).2.2

end Sys2Proof.Machine
end

section
/-! PROOFS. The step, the part's own step and the timebase (R1), postings (R162), what every command leaves of the queue of commands, and the reset state. -/

namespace Sys2Proof.Machine

/-! ### The front command and the timebase -/

/-- Settles O1. -/
theorem stepRunsTheFrontCommand : Obligations.StepRunsTheFrontCommand := fun _ _ _ => rfl

/-- A countdown loaded with `n`, so many ticks later (R1). -/
theorem tick_iterate_running (k : Nat) : ∀ n : Nat, Countdown.tick^[k] (.running n) = if n < k then .due else .running (n - k) := by
  induction k with
  | zero => simp
  | succ k ih =>
    intro n
    rw [Function.iterate_succ_apply]
    cases n with
    | zero =>
      have hdue : Countdown.tick^[k] .due = .due := Function.iterate_fixed rfl k
      simpa [Countdown.tick] using hdue
    | succ n =>
      rw [show Countdown.tick (.running (n + 1)) = .running n from rfl, ih n]
      simp

/-- Settles O4, by the value of a countdown after so many ticks. -/
theorem countdownComesDueAfterItsDuration : Obligations.CountdownComesDueAfterItsDuration := by
  have hload : ∀ n k : Nat, Countdown.tick^[k] (.running n) = .due ↔ n < k := fun n k => by
    rw [tick_iterate_running]
    split <;> simp_all
  exact ⟨hload, fun sec => hload (1000 * sec), fun k => Function.iterate_fixed rfl k⟩

/-! ### Postings -/

/-- The class of a notice kind is that of its row (section 9.7). -/
theorem urgent_eq_row (b : NoticeBody) : b.urgent = b.row.2.1 := by
  cases b <;> rfl

/-- A notice held or the overflow flag pulls ATTN low outside a reset (R164). -/
theorem attnLow_awake {s : State} (hs : s.awake) : s.attnLow = true ↔ s.notices.count ≠ 0 ∨ s.notices.overflow = true := by
  unfold State.awake at hs
  simp [State.attnLow, hs]

/-- Settles O27. -/
theorem postingJoinsItsClassOrOverflows : Obligations.PostingJoinsItsClassOrOverflows := by
  intro s b
  have hfull : 48 ≤ s.notices.count → (s.post b).notices = ⟨s.notices.urgent, s.notices.routine, true⟩ := fun h =>
    (notices_post s b).trans (if_neg (Nat.not_lt_of_le h))
  have hroom : s.notices.count < 48 → (s.post b).notices =
      if b.row.2.1 then ⟨s.notices.urgent ++ [⟨b, s.unitClock⟩], s.notices.routine, s.notices.overflow⟩
      else ⟨s.notices.urgent, s.notices.routine ++ [⟨b, s.unitClock⟩], s.notices.overflow⟩ := fun h => by
    rw [← urgent_eq_row]
    exact (notices_post s b).trans (if_pos h)
  refine ⟨hroom, hfull, fun hs => (attnLow_awake (by simpa [State.awake] using hs)).mpr ?_⟩
  by_cases h : s.notices.count < 48
  · rw [hroom h]
    split <;> simp [NoticeQueue.count]
  · rw [hfull (Nat.le_of_not_lt h)]
    exact .inr rfl

/-! ### What is due -/

theorem mem_stateExpiry {r : PortRecord} {p : Port} {i : Instr} : i ∈ stateExpiry r p ↔ r.countdown = .due ∧
    ((r.state = .search ∧ i = .detectionExpiry p) ∨ (r.state = .classify ∧ i = .classifyLimitExpiry p)
      ∨ (r.state = .inrush ∧ i = .inrushLimitExpiry p) ∨ (r.state = .on ∧ i = .forgivenessExpiry p)
      ∨ (r.state = .faultHold ∧ i = .holdoffExpiry p)
      ∨ (r.state = .recycle ∧ r.recyclePhase = some .offTime ∧ ∃ c, ceilingPort c = p ∧ i = .offTimeExpiry c)) := by
  unfold stateExpiry
  cases hst : r.state with
  | recycle =>
    cases hc : ceilingOf p with
    | none =>
      have : ∀ c, ceilingPort c ≠ p := fun c h => by simp [ceilingOf_eq_some.mpr h] at hc
      simp [this]
    | some c =>
      have : ∀ d, ceilingPort d = p ↔ d = c := fun d => by
        rw [← ceilingOf_eq_some, hc, Option.some_inj, eq_comm]
      cases hph : r.recyclePhase with
      | none => simp
      | some ph => cases ph <;> simp [this]
  | _ => simp

theorem mem_portDue {s : State} {p : Port} {i : Instr} : i ∈ portDue s p ↔ i ∈ stateExpiry (s.port p) p
    ∨ ((s.port p).supervision = .timing ∧ (s.port p).tolerance = .due ∧ i = .toleranceExpiry p)
    ∨ ((s.port p).state = .on ∧ (s.port p).supervision = .tripped ∧ i = .overload p) := by
  unfold portDue
  simp [and_assoc]

theorem mem_ceilingDue {s : State} {c : Ceiling} {i : Instr} : i ∈ ceilingDue s c ↔ (s.ceiling c).active = true
    ∧ (((s.ceiling c).linkCountdown = .due ∧ i = .linkCountdownExpiry c)
      ∨ ((s.ceiling c).stableCountdown = .due ∧ i = .stableExpiry c)) := by
  unfold ceilingDue
  dsimp only
  split <;> simp_all

theorem mem_holdDue {s : State} {d : Fin 6} {i : Instr} :
    i ∈ holdDue s d ↔ ∃ r, s.stack[d.val]? = some r ∧ r.hold = .due ∧ i = .holdExpiry d := by
  unfold holdDue
  split <;> simp_all

/-- The due events, by their blocks. -/
theorem mem_dueEvents {s : State} {i : Instr} : i ∈ dueEvents s ↔
    (s.unit.unitState = .held ∧ s.unit.autonomy = .due ∧ i = .autonomyExpiry)
      ∨ (s.line.receiver = .collecting ∧ s.line.byteGap = .due ∧ i = .byteGapExpiry)
      ∨ (s.supply.candidate.isSome = true ∧ s.supply.settle = .due ∧ i = .settleExpiry)
      ∨ (s.supply.rideLimit = .due ∧ i = .rideLimitExpiry) ∨ (s.supply.recovery = .due ∧ i = .recoveryExpiry)
      ∨ (∃ d, i ∈ holdDue s d) ∨ (∃ p, i ∈ portDue s p) ∨ ∃ c, i ∈ ceilingDue s c := by
  unfold dueEvents
  simp [allPorts, allCeilings]

/-- The due events are those that the statements name, each in the state of its rule (R1, R52, section 2.9). -/
theorem mem_dueEvents_iff_due {s : State} {i : Instr} : i ∈ dueEvents s ↔ s.due i := by
  simp only [mem_dueEvents, mem_holdDue, mem_portDue, mem_stateExpiry, mem_ceilingDue]
  cases i <;> simp [State.due, Option.isSome_iff_ne_none, and_comm, and_left_comm]

theorem step_empty {s : State} (h : s.pending = []) : step s = s.ownStep := by
  unfold step
  rw [h]

/-- Settles O3. -/
theorem emptyQueueStepIsDueEventOrTick : Obligations.EmptyQueueStepIsDueEventOrTick := by
  intro s hp
  rw [step_empty hp]
  unfold State.ownStep State.awake
  refine ⟨fun h => if_pos h, fun _ _ => mem_dueEvents_iff_due, fun ha hne => ?_, fun ha hnil => ?_⟩
  · rw [if_neg (by simp [ha])]
    cases hd : dueEvents s with
    | nil => exact absurd hd hne
    | cons c rest =>
      have hlt : Config.eventChoice s.free % (rest.length + 1) < (c :: rest).length := Nat.mod_lt _ (Nat.succ_pos _)
      exact ⟨_, List.getElem_mem hlt, by rw [← List.getD_eq_getElem _ c hlt]⟩
  · rw [if_neg (by simp [ha]), hnil]
    refine ⟨s.tick, rfl, rfl, port_tick s, ceiling_tick s, rfl, rfl, rfl, ⟨?_, ?_, ?_⟩, rfl, rfl, rfl, rfl, rfl, hp⟩
    · exact fun h => if_neg h
    · exact fun h => by
        have hline : s.tick.line = _ := if_pos h
        rw [hline]
    · exact fun h hage => by
        have hline : s.tick.line = _ := if_pos h
        rw [hline]
        simp [replyLatest, hage]

/-! ### What a request leaves of the line, the timebase and the queue of commands -/

/-- The line, the timebase, the free values and the queue of commands are unchanged. -/
def State.sameSide (s t : State) : Prop := t.line = s.line ∧ t.now = s.now ∧ t.free = s.free ∧ t.pending = s.pending

theorem sameSide_refl (s : State) : s.sameSide s := ⟨rfl, rfl, rfl, rfl⟩

/-- What a block does after a change that leaves the side alone leaves it alone too. -/
theorem State.sameSide.host {s t u : State} (h : s.sameSide t) (k : t.sameHost u) : s.sameSide u := by
  obtain ⟨h1, h2, h3, h4⟩ := h
  obtain ⟨-, k1, -, k2, k3, k4⟩ := k
  exact ⟨k1.trans h1, k2.trans h2, k3.trans h3, k4.trans h4⟩

theorem sameSide_settings (s : State) (g : Settings) : s.sameSide { s with settings := g } := ⟨rfl, rfl, rfl, rfl⟩

/-- The unit as entry to RUNNING makes it: the profile in force, the unit state and the autonomy countdown (R170). -/
def State.commissioned (s : State) (i : Fin 2) : State :=
  { s with
    settings := { s.settings with inForce := i }
    unit := { s.unit with unitState := .running, autonomy := .idle } }

/-- The notice of an entry to RUNNING, if it has one (R170). -/
def State.announce (s : State) : Option NoticeBody → State
  | some n => s.post n
  | none => s

/-- Entry to RUNNING: the unit, its notice, the ports out of DORMANT, and one evaluation (R170). -/
theorem enterRunning_eq (s : State) (i : Fin 2) (n : Option NoticeBody) :
    s.enterRunning i n = (allPorts.foldl State.wakePort ((s.commissioned i).announce n)).evaluate .setting := by
  cases n <;> rfl

theorem sameHost_announce (s : State) (n : Option NoticeBody) : s.sameHost (s.announce n) := by
  cases n with
  | none => exact sameHost_refl s
  | some b => exact sameHost_post b s

theorem sameHost_wakePorts (l : List Port) (s : State) : s.sameHost (l.foldl State.wakePort s) :=
  foldl_keeps (P := s.sameHost) (fun t p ht => sameHost_trans ht (sameHost_wakePort p t)) l s (sameHost_refl s)

theorem sameHost_enterRunning (s : State) (i : Fin 2) (n : Option NoticeBody) : (s.commissioned i).sameHost (s.enterRunning i n) := by
  rw [enterRunning_eq]
  exact sameHost_trans (sameHost_trans (sameHost_announce _ n) (sameHost_wakePorts _ _)) (sameHost_evaluate _ _)

theorem sameSide_enterRunning (s : State) (i : Fin 2) (n : Option NoticeBody) : s.sameSide (s.enterRunning i n) :=
  State.sameSide.host (t := s.commissioned i) ⟨rfl, rfl, rfl, rfl⟩ (sameHost_enterRunning s i n)

theorem sameSide_storePort (s : State) (i : Fin 2) (p : Port) (x : PortSettings) : s.sameSide (s.storePort i p x) := by
  by_cases hact : i = s.settings.inForce ∧ s.unit.unitState = .running
  · obtain ⟨rfl, hr⟩ := hact
    have hstore : s.sameSide (s.storeAdmin p x).1 := by
      unfold State.storeAdmin
      split
      · exact sameSide_settings s _
      · exact (sameSide_settings s _).host (sameHost_applyAdmin p _ _)
    rw [storePort_inForce hr]
    split
    · exact hstore.host (sameHost_follow _ _)
    · exact (hstore.host (sameHost_applyPriority p _ _)).host (sameHost_evaluate _ _)
  · rw [storePort_aside hact]
    exact sameSide_settings s _

theorem sameHost_switchAdmins (s : State) (i : Fin 2) :
    State.sameHost { s with settings := { s.settings with inForce := i } } (s.switchAdmins i) := by
  unfold State.switchAdmins
  refine foldl_keeps (P := State.sameHost { s with settings := { s.settings with inForce := i } }) (fun t p ht => ?_) _ _ (sameHost_refl _)
  split
  · exact ht
  · exact sameHost_trans ht (sameHost_applyAdmin p _ t)

theorem sameHost_switchPriorities (s : State) (i : Fin 2) :
    State.sameHost { s with settings := { s.settings with inForce := i } } (s.switchPriorities i) := by
  unfold State.switchPriorities
  refine foldl_keeps (P := State.sameHost { s with settings := { s.settings with inForce := i } }) (fun t p ht => ?_) _ _
    (sameHost_switchAdmins s i)
  split
  · exact ht
  · exact sameHost_trans ht (sameHost_applyPriority p _ t)

theorem sameSide_switchProfile (s : State) (i : Fin 2) : s.sameSide (s.switchProfile i) := by
  cases hu : s.unit.unitState with
  | held =>
    rw [switchProfile_held hu]
    exact sameSide_settings s _
  | running =>
    rw [switchProfile_running hu]
    exact ((sameSide_settings s _).host (sameHost_switchPriorities s i)).host (sameHost_evaluate _ _)

theorem sameHost_rematch (s : State) : s.sameHost s.rematch := by
  unfold State.rematch
  split
  · exact sameHost_refl s
  · exact sameHost_windowRules _ s

theorem sameSide_setWindow (s : State) (body : List Byte) : s.sameSide (answerSetWindow body s).state := by
  have hstore : ∀ g : Settings, s.sameSide ((State.rematch { s with settings := g }).evaluate .setting) := fun g =>
    ((sameSide_settings s g).host (sameHost_rematch _)).host (sameHost_evaluate _ _)
  unfold answerSetWindow
  split
  · exact sameSide_refl s
  · split
    · exact sameSide_refl s
    · split
      · unfold answerDefaultBudget
        split
        · exact sameSide_refl s
        · exact hstore _
      · unfold answerWindow
        split
        · exact sameSide_refl s
        · split
          · exact sameSide_refl s
          · dsimp only
            split
            · exact sameSide_refl s
            · exact hstore _

theorem sameSide_command (s : State) (k : PortCommand) (p : Port) : s.sameSide (answerCommand k p s).state := by
  have hadmin : ∀ a, s.sameSide (s.writeAdmin p a) := fun a => sameSide_settings s _
  cases k with
  | enable => exact (hadmin true).host (sameHost_enablePort p _)
  | disable => exact ((hadmin false).host (sameHost_disablePort p _)).host (sameHost_follow _ _)
  | clear =>
    show s.sameSide (answerClear p s).state
    unfold answerClear
    split
    · exact (sameSide_refl s).host (sameHost_unlock s p)
    · exact (sameSide_refl s).host (sameHost_updPort p _ s)
    · exact sameSide_refl s
  | recycle =>
    show s.sameSide (answerRecycle p s).state
    unfold answerRecycle
    split
    · exact sameSide_refl s
    · split
      · exact (sameSide_refl s).host (sameHost_trans (sameHost_enterRecycle _ s) (sameHost_post _ _))
      · exact sameSide_refl s

theorem sameSide_portCommand (s : State) (body : List Byte) : s.sameSide (answerPortCommand body s).state := by
  unfold answerPortCommand
  split
  · exact sameSide_refl s
  · exact sameSide_refl s
  · split
    · exact sameSide_refl s
    · exact sameSide_refl s
    · split
      · exact sameSide_refl s
      · exact sameSide_refl s
      · exact sameSide_command s _ _

/-- A request's handler leaves the line alone, but for the count that Identify clears and the reset that Restart asks for. -/
theorem sameSide_handler (s : State) {k : RequestKind} (hi : k ≠ .identify) (hr : k ≠ .restart) (body : List Byte) :
    s.sameSide (handler k body s).state := by
  cases k with
  | identify => exact absurd rfl hi
  | restart => exact absurd rfl hr
  | commission =>
    show s.sameSide (answerCommission body s).state
    unfold answerCommission
    split
    · exact sameSide_refl s
    · split
      · exact sameSide_refl s
      · split
        · exact sameSide_refl s
        · rw [accept_state]
          exact sameSide_enterRunning s _ none
  | setPort =>
    show s.sameSide (answerSetPort body s).state
    unfold answerSetPort
    split
    · exact sameSide_refl s
    · split
      · exact sameSide_refl s
      · split
        · exact sameSide_refl s
        · split
          · exact sameSide_storePort s _ _ _
          · exact sameSide_refl s
  | setGrades =>
    show s.sameSide (answerSetGrades body s).state
    unfold answerSetGrades
    split
    · exact sameSide_refl s
    · exact sameSide_settings s _
  | setTiming =>
    show s.sameSide (answerSetTiming body s).state
    unfold answerSetTiming
    split
    · exact sameSide_refl s
    · unfold State.storeTiming
      dsimp only
      rw [accept_state]
      split
      · exact sameSide_settings s _
      · exact (sameSide_settings s _).host (sameHost_arbiterRun _)
  | setSupply =>
    show s.sameSide (answerSetSupply body s).state
    unfold answerSetSupply
    split
    · exact sameSide_refl s
    · exact (sameSide_settings s _).host (sameHost_evaluate _ _)
  | setWindow => exact sameSide_setWindow s body
  | selectProfile =>
    show s.sameSide (answerSelectProfile body s).state
    unfold answerSelectProfile
    split
    · exact sameSide_refl s
    · split
      · exact sameSide_refl s
      · rw [accept_state]
        exact sameSide_switchProfile s _
  | portCommand => exact sameSide_portCommand s body
  | shedTo =>
    have himpose : ∀ cap, s.sameSide (s.impose cap) := fun cap =>
      State.sameSide.host (t := { s with ledger := { s.ledger with imposedCap := cap } }) (sameSide_refl s) (sameHost_evaluate _ _)
    show s.sameSide (answerShedTo body s).state
    unfold answerShedTo
    split
    · exact sameSide_refl s
    · split
      · exact sameSide_refl s
      · exact himpose none
      · exact himpose _
  | readPort =>
    show s.sameSide (answerReadPort body s).state
    unfold answerReadPort
    split
    · exact sameSide_refl s
    · split
      · exact sameSide_refl s
      · exact sameSide_refl s
      · exact sameSide_refl s
  | readLedger => exact answerRead_keeps (.inl rfl) body (sameSide_refl s)
  | readQueue => exact answerRead_keeps (.inr (.inl rfl)) body (sameSide_refl s)
  | readStack => exact answerRead_keeps (.inr (.inr rfl)) body (sameSide_refl s)
  | readGap =>
    show s.sameSide (answerReadGap body s).state
    unfold answerReadGap
    split <;> exact sameSide_refl s
  | takeNotices =>
    show s.sameSide (answerTakeNotices body s).state
    unfold answerTakeNotices
    split <;> exact sameSide_refl s

/-- No handler touches the queue of commands. -/
theorem pending_handler (s : State) (k : RequestKind) (body : List Byte) : (handler k body s).state.pending = s.pending := by
  by_cases hi : k = .identify
  · subst hi
    show (answerIdentify body s).state.pending = s.pending
    unfold answerIdentify
    split
    · rfl
    · split <;> rfl
  · by_cases hr : k = .restart
    · subst hr
      show (answerRestart body s).state.pending = s.pending
      unfold answerRestart
      split <;> rfl
    · obtain ⟨-, -, -, hp⟩ := sameSide_handler s hi hr body
      exact hp

/-! ### Every command and the queue of commands -/

theorem pending_endReset (s : State) (c : ResetCause) (x : Straps) : (s.endReset c x).pending = s.pending := by
  unfold State.endReset
  rw [post_pending]
  rfl

theorem pending_takeBroadcast (s : State) (k : RequestKind) (body : List Byte) : (s.takeBroadcast k body).pending = s.pending := by
  unfold State.takeBroadcast State.restartReset
  dsimp only
  split
  · rw [pending_endReset, hunt_pending, pending_handler]
  · rw [hunt_pending, pending_handler]

theorem pending_checkFrame (s : State) (addr kind : Byte) (body : List Byte) (crc : BitVec 16) :
    (s.checkFrame addr kind body crc).pending = s.pending := by
  unfold State.checkFrame
  split
  · unfold State.goodFrame
    split
    · unfold State.takeOwn answerKind
      dsimp only
      rw [withReply_pending]
      split
      · exact pending_handler s _ body
      · rfl
    · split
      · split
        · split
          · exact pending_takeBroadcast s _ body
          · rfl
        · rfl
      · rfl
  · rfl

theorem pending_takeByte (s : State) (b : Byte) (fe : Bool) : (s.takeByte b fe).pending = s.pending := by
  unfold State.takeByte
  split
  · split <;> rfl
  · split
    · rfl
    · unfold State.examine
      split
      · split
        · rfl
        · split
          · exact pending_checkFrame _ _ _ _ _
          · rfl
      · rfl
  · rfl

theorem pending_arrive (s : State) (addr kind : Byte) (body : List Byte) (crc : BitVec 16) :
    (s.arrive addr kind body crc).pending = s.pending := by
  have hbytes : ∀ l, (s.takeBytes l).pending = s.pending := fun l =>
    foldl_keeps (P := fun t : State => t.pending = s.pending) (fun t b ht => (pending_takeByte t b false).trans ht) l s rfl
  unfold State.arrive
  split
  · rfl
  · split
    · exact pending_checkFrame s _ _ _ _
    · exact hbytes _
  · exact hbytes _

theorem pending_endReply (s : State) : s.endReply.pending = s.pending := by
  unfold State.endReply State.restartReset
  split
  · rfl
  · dsimp only
    split
    · exact pending_endReset _ _ _
    · rfl

/-- A command taken outside a reset alone, by what it does then (R168). -/
theorem pending_taken {f : State → State} (hf : ∀ s, (f s).pending = s.pending) (s : State) :
    ∃ t, taken s f = .next t ∧ t.pending = s.pending := by
  refine ⟨_, rfl, ?_⟩
  unfold State.unlessReset
  split
  · rfl
  · exact hf s

theorem pending_of_sameHost {f : State → State} (hf : ∀ s : State, s.sameHost (f s)) (s : State) : (f s).pending = s.pending := by
  obtain ⟨-, -, -, -, -, hp⟩ := hf s
  exact hp

/-- Every command answers a next state with the same queue of commands: one case a row of the command table. -/
theorem exec_pending (c : Instr) (s : State) : ∃ t, exec c s = .next t ∧ t.pending = s.pending := by
  cases hc : c.requestOf with
  | some r =>
    obtain ⟨d, k, body⟩ := r
    rw [exec_request hc]
    exact pending_taken (f := (·.request d k body)) (fun s => pending_arrive s _ _ _ _) s
  | none =>
    cases c with
    | unknownKindRequest kind body => exact pending_taken (fun s => pending_arrive s _ _ _ _) s
    | crcMismatch addr kind body crc => exact pending_taken (fun s => pending_arrive s _ _ _ _) s
    | goodFrameIgnored addr kind body => exact pending_taken (fun s => pending_arrive s _ _ _ _) s
    | frameFaultDiscard f => exact pending_taken (fun s => by unfold State.faultFrame; split <;> rfl) s
    | byteGapExpiry => exact pending_taken (fun s => by unfold State.expireByteGap; split <;> rfl) s
    | replySent => exact pending_taken pending_endReply s
    | lineByte b fe => exact pending_taken (fun s => pending_takeByte s b fe) s
    | supplyFail => exact ⟨_, rfl, by unfold State.supplyFails; split <;> rfl⟩
    | supplyGood pins =>
      refine ⟨_, rfl, ?_⟩
      unfold State.supplyRises
      split
      · rfl
      · dsimp only
        split
        · exact pending_endReset _ _ _
        · rfl
    | rstLow => exact ⟨_, rfl, by unfold State.rstFalls; split <;> rfl⟩
    | rstHigh pins =>
      refine ⟨_, rfl, ?_⟩
      unfold State.rstRises
      split
      · rfl
      · dsimp only
        split
        · exact pending_endReset _ _ _
        · rfl
    | autonomyExpiry =>
      refine pending_taken (fun s => ?_) s
      unfold State.expireAutonomy
      split
      · obtain ⟨-, -, -, hpending⟩ := sameSide_enterRunning s 0 (some (.autonomousStart ((autonomySeconds s.unit.straps).getD 0)))
        exact hpending
      · rfl
    | voltageSample v => exact pending_taken (pending_of_sameHost (sameHost_takeVoltage v)) s
    | settleExpiry => exact pending_taken (pending_of_sameHost sameHost_expireSettle) s
    | linePresentSample x => exact pending_taken (pending_of_sameHost (sameHost_takeLine x)) s
    | rideLimitExpiry => exact pending_taken (pending_of_sameHost sameHost_expireRideLimit) s
    | recoveryExpiry => exact pending_taken (pending_of_sameHost sameHost_expireRecovery) s
    | temperatureSample x => exact pending_taken (pending_of_sameHost (sameHost_takeTemperature x)) s
    | holdExpiry d => exact pending_taken (pending_of_sameHost (sameHost_expireHold d)) s
    | detectionResult p d => exact pending_taken (pending_of_sameHost (sameHost_takeDetection p d)) s
    | detectionExpiry p => exact pending_taken (pending_of_sameHost (sameHost_expireDetection p)) s
    | gradeResult p g => exact pending_taken (pending_of_sameHost (sameHost_takeGrade p g)) s
    | classifyLimitExpiry p => exact pending_taken (pending_of_sameHost (sameHost_expireClassify p)) s
    | presenceLost p => exact pending_taken (pending_of_sameHost (sameHost_losePresence p)) s
    | rampComplete p => exact pending_taken (pending_of_sameHost (sameHost_completeRamp p)) s
    | short p => exact pending_taken (pending_of_sameHost (sameHost_takeShort p)) s
    | inrushLimitExpiry p => exact pending_taken (pending_of_sameHost (sameHost_expireInrush p)) s
    | forgivenessExpiry p => exact pending_taken (pending_of_sameHost (sameHost_expireForgiveness p)) s
    | holdoffExpiry p => exact pending_taken (pending_of_sameHost (sameHost_expireHoldoff p)) s
    | overcurrentBegin p => exact pending_taken (pending_of_sameHost (sameHost_beginExcursion p)) s
    | overcurrentEnd p => exact pending_taken (pending_of_sameHost (sameHost_endExcursion p)) s
    | toleranceExpiry p => exact pending_taken (pending_of_sameHost (sameHost_expireTolerance p)) s
    | overload p => exact pending_taken (pending_of_sameHost (sameHost_takeOverload p)) s
    | linkSenseSample c l => exact pending_taken (pending_of_sameHost (sameHost_senseLink c l)) s
    | linkCountdownExpiry c => exact pending_taken (pending_of_sameHost (sameHost_expireLink c)) s
    | stableExpiry c => exact pending_taken (pending_of_sameHost (sameHost_expireStable c)) s
    | offTimeExpiry c => exact pending_taken (pending_of_sameHost (sameHost_expireOffTime c)) s
    | _ => cases hc

/-- Every command but the four of the supply and RST goes through the guard of the resets (R168). -/
theorem exec_eq_taken {c : Instr} (hc : c.ofReset = false) : ∃ f, ∀ s, exec c s = taken s f := by
  cases c with
  | supplyFail => cases hc
  | supplyGood pins => cases hc
  | rstLow => cases hc
  | rstHigh pins => cases hc
  | _ => exact ⟨_, fun _ => rfl⟩

/-- Settles O2. -/
theorem everyCommandAnswersAndResetsTakeNone : Obligations.EveryCommandAnswersAndResetsTakeNone := fun c s =>
  ⟨exec_pending c s, fun hr hc => by
    obtain ⟨f, hf⟩ := exec_eq_taken hc
    rw [hf, taken, unlessReset_inReset hr]⟩

/-! ### The reset state -/

theorem blocksAtReset_blank (u : StartUp) (free : Nat) (pending : List Instr) : (State.blank u free pending).blocksAtReset :=
  ⟨rfl, port_blank u free pending, fun c => by simp [State.ceiling, State.blank, Vector.get_eq_getElem], rfl, rfl, rfl, rfl, rfl⟩

theorem blocksAtReset_post {s : State} (b : NoticeBody) (hs : s.blocksAtReset) : (s.post b).blocksAtReset := by
  unfold State.blocksAtReset at *
  simpa only [post_settings, port_post, ceiling_post, post_supply, post_ledger, post_stack, post_queue, post_line] using hs

theorem unit_endReset (s : State) (cause : ResetCause) (straps : Straps) : (s.endReset cause straps).unit =
    { s.unit with
      straps := straps, unitState := .held, autonomy := autonomyCountdown straps, resetCause := cause, inReset := none } :=
  post_unit _ _

/-- RESET_DONE is the only notice, stamped 0 (R168). -/
theorem notices_endReset (s : State) (cause : ResetCause) (straps : Straps) :
    (s.endReset cause straps).notices = ⟨[⟨.resetDone cause, 0⟩], [], false⟩ := by
  unfold State.endReset
  rw [notices_post]
  rfl

/-- A unit whose reset has just ended (R166, R168, R169). -/
theorem justReset_endReset (s : State) (cause : ResetCause) (straps : Straps) : (s.endReset cause straps).justReset cause straps := by
  have hunit := unit_endReset s cause straps
  have hawake : (s.endReset cause straps).awake := by rw [State.awake, hunit]
  refine ⟨hawake, blocksAtReset_post _ (blocksAtReset_blank _ _ _), by rw [hunit], by rw [hunit], by rw [hunit], ?_,
    post_now _ _, notices_endReset s cause straps, ?_⟩
  · rw [hunit]
    show autonomyCountdown straps = _
    unfold autonomyCountdown autonomySeconds
    obtain ⟨addr, auto, baud⟩ := straps
    fin_cases auto <;> rfl
  · rw [attnLow_awake hawake, notices_endReset]
    exact .inl nofun

/-- The reset state is a blank one with RESET_DONE posted. -/
theorem KeptByCommands.reset {P : State → Prop} (h : KeptByCommands P) : P State.reset :=
  h.post (State.blank State.reset.unit 0 []) (.resetDone .power) (h.blank _ _ _ rfl)

/-- Settles O60: the invariants hold in the reset values and a posting keeps them. -/
theorem resetMeetsTheInvariants : Obligations.ResetMeetsTheInvariants := by
  obtain ⟨hcommit, hfits, hlisted⟩ := stackExact_shape.toStanding.commands.reset
  refine ⟨justReset_endReset State.reset .power Straps.allLow, noticesFit_shape.toStanding.commands.reset,
    settingsInRange_commands.reset, figuresCurrent_commands.reset, hcommit, budgeted_standing.commands.reset.2.2,
    heldQuiet_shape.toStanding.commands.reset, queueOrdered_shape.toStanding.commands.reset,
    queueExact_shape.toStanding.commands.reset, marksPlaced_shape.toStanding.commands.reset, hfits, hlisted,
    recycleOnCeiling_shape.toStanding.commands.reset, pricedOn_true.mp pricedOn_standing.commands.reset.2,
    slotsFit_standing.commands.reset.2, spareOn_true.mp spareOn_standing.commands.reset.2⟩

end Sys2Proof.Machine
end

section
/-! PROOFS. Resets of the supply and of RST (R167, R168), Restart (R172), and entry to RUNNING (R170, R171). -/

namespace Sys2Proof.Machine

/-! ### The supply and RST -/

/-- A reset in progress (R168). -/
theorem resetting_beginReset (s : State) (kind : ResetCause) : (s.beginReset kind).resetting kind :=
  ⟨rfl, blocksAtReset_blank _ _ _, rfl, rfl⟩

/-- The Start-Up Controller with these levels of the supply and RST. -/
def State.withLevels (s : State) (good high recognised : Bool) : State :=
  { s with unit := { s.unit with supplyGood := good, rstHigh := high, rstRecognised := recognised } }

section
variable {s : State}

theorem supplyFails_good (h : s.unit.supplyGood = true) :
    s.supplyFails = (s.withLevels false s.unit.rstHigh s.unit.rstRecognised).beginReset .power := if_pos h

theorem supplyRises_high (h : s.unit.supplyGood = false) (x : Straps) :
    s.supplyRises ⟨x, true⟩ = (s.withLevels true true false).endReset .power x := by
  simp [State.supplyRises, h, State.withLevels]

theorem supplyRises_low (h : s.unit.supplyGood = false) (x : Straps) :
    s.supplyRises ⟨x, false⟩ = (s.withLevels true false s.unit.rstRecognised).beginReset .power := by
  simp [State.supplyRises, h, State.withLevels]

theorem rstFalls_unrecognised (h : s.unit.rstRecognised = false) :
    s.rstFalls = (s.withLevels s.unit.supplyGood false true).beginReset .pin := by
  simp [State.rstFalls, h, State.withLevels]

theorem rstRises_good (h : s.unit.rstHigh = false) (hg : s.unit.supplyGood = true) (x : Straps) :
    s.rstRises x = (s.withLevels true true false).endReset (s.unit.inReset.getD .pin) x := by
  simp [State.rstRises, h, hg, State.withLevels]

theorem rstRises_failed (h : s.unit.rstHigh = false) (hg : s.unit.supplyGood = false) (x : Straps) :
    s.rstRises x = { s with unit := { s.unit with rstHigh := true, rstRecognised := false } } := by
  simp [State.rstRises, h, hg]

end

/-- A reset ends with RST's release, recording the kind that began last (R167). -/
theorem rstRises_beginReset (s : State) (kind : ResetCause) (recognised : Bool) (x : Straps) :
    (((s.withLevels true false recognised).beginReset kind).rstRises x).justReset kind x := by
  rw [rstRises_good rfl rfl]
  exact justReset_endReset _ _ _

/-- A command's outcome, with the state it answers named otherwise. -/
theorem exec_next {c : Instr} {s t u : State} (h : exec c s = .next t) (e : t = u) : exec c s = .next u := e ▸ h

/-- A command taken outside a reset (R168). -/
theorem taken_awake {s : State} (hs : s.awake) (f : State → State) : taken s f = .next (f s) :=
  congrArg Host.Outcome.next (unlessReset_awake hs f)

/-- The end of a reset leaves the levels of the supply and RST. -/
theorem levels_endReset (s : State) (good high recognised : Bool) (cause : ResetCause) (x : Straps) :
    let t := (s.withLevels good high recognised).endReset cause x
    t.unit.supplyGood = good ∧ t.unit.rstHigh = high ∧ t.unit.rstRecognised = recognised := by
  dsimp only
  rw [unit_endReset]
  exact ⟨rfl, rfl, rfl⟩

/-- Settles O5: each level's command as the reset it begins or ends. -/
theorem supplyAndRstBeginAndEndResets : Obligations.SupplyAndRstBeginAndEndResets := by
  intro s pins other
  refine ⟨fun h => ?_, fun h => ?_, fun h => ?_, fun h => ?_, fun h hg => ?_, fun h hg => ?_, fun h hr => ⟨?_, ?_, ?_⟩, fun h => ?_,
    fun h => ?_, fun h high => ?_, fun h => ?_⟩
  · exact ⟨_, exec_next rfl (supplyFails_good h), resetting_beginReset _ _, rfl, rfl, rfl, rfl⟩
  · exact ⟨_, exec_next rfl (rstFalls_unrecognised h), resetting_beginReset _ _, rfl, rfl, rfl, rfl⟩
  · exact ⟨_, exec_next rfl (supplyRises_high h pins), justReset_endReset _ _ _, levels_endReset s _ _ _ _ _⟩
  · exact ⟨_, exec_next rfl (supplyRises_low h pins), resetting_beginReset _ _, rfl, rfl, rfl, rfl⟩
  · exact ⟨_, exec_next rfl (rstRises_good h hg pins), justReset_endReset _ _ _, levels_endReset s _ _ _ _ _⟩
  · exact exec_next rfl (rstRises_failed h hg pins)
  · refine ⟨((s.supplyRises ⟨other, false⟩).rstFalls).rstRises pins, rfl, ?_⟩
    rw [supplyRises_low h, rstFalls_unrecognised (by exact hr)]
    exact rstRises_beginReset _ _ _ _
  · refine ⟨(s.supplyRises ⟨other, false⟩).rstRises pins, rfl, ?_⟩
    rw [supplyRises_low h]
    exact rstRises_beginReset _ _ _ _
  · refine ⟨((s.rstFalls).supplyRises ⟨other, false⟩).rstRises pins, rfl, ?_⟩
    rw [rstFalls_unrecognised hr, supplyRises_low (by exact h)]
    exact rstRises_beginReset _ _ _ _
  · exact exec_next rfl (if_neg (by simp [h]))
  · exact exec_next rfl (if_pos h)
  · exact exec_next rfl (if_pos h)
  · exact exec_next rfl (if_pos h)

/-! ### Broadcasts of capable kinds -/

theorem exec_broadcast {i : Instr} {k : RequestKind} {body : List Byte} (h : i.requestOf = some (.broadcast, k, body))
    (hk : broadcastCapable k = true) {s : State} (hs : s.listening) (hb : body.length ≤ Config.maxBody) :
    exec i s = .next (s.takeBroadcast k body) := exec_next (exec_request_broadcast h hs hb) (if_pos hk)

/-- A broadcast that leaves no Restart waiting ends with the receiver hunting (R157). -/
theorem exec_broadcast_of_handler {i : Instr} {k : RequestKind} {body : List Byte} (h : i.requestOf = some (.broadcast, k, body))
    (hk : broadcastCapable k = true) {s : State} (hs : s.listening) (hb : body.length ≤ Config.maxBody) {u : State}
    (hu : (handler k body s).state = u) (hr : u.line.restartPending = false) : exec i s = .next u.hunt := by
  refine exec_next (exec_broadcast h hk hs hb) ?_
  unfold State.takeBroadcast
  rw [hu]
  exact if_neg (by rw [line_hunt, hr]; nofun)

/-! ### Restart -/

/-- An accepted Restart waits in the line (R172). -/
def State.awaitingRestart (s : State) : State := s.updLine fun l => { l with restartPending := true }

/-- Settles O6: the accepted Restart waits in the line until its reply has been sent, and a broadcast one does not wait. -/
theorem restartResetsAfterItsReply : Obligations.RestartResetsAfterItsReply := by
  intro s hs
  refine ⟨⟨_, exec_request_own rfl hs (Nat.zero_le _), rfl, ?_⟩, ?_, fun body hne hlen => ?_⟩
  · have hsent : (s.awaitingRestart.withReply 0x03 .done []).endReply
        = ((s.awaitingRestart.withReply 0x03 .done []).hunt.updLine fun l =>
          { l with reply := none, replyAge := 0, driver := false }).endReset .restart s.unit.straps := rfl
    exact ⟨_, exec_next (taken_awake (s := s.awaitingRestart.withReply 0x03 .done []) hs.1 (·.endReply)) hsent,
      justReset_endReset _ _ _, pending_endReset _ _ _⟩
  · have htaken : s.takeBroadcast .restart [] = s.awaitingRestart.hunt.endReset .restart s.unit.straps := rfl
    exact ⟨_, exec_next (exec_broadcast (k := .restart) rfl rfl hs (Nat.zero_le _)) htaken, justReset_endReset _ _ _, pending_endReset _ _ _⟩
  · exact answers_of_handler rfl hs hlen (if_pos (by simpa using hne))

/-! ### Entry to RUNNING -/

/-- Without an entry in the queue an arbiter run does nothing (R113). -/
theorem arbiterRun_empty {s : State} (h : s.queue = []) : s.arbiterRun = s := by
  unfold State.arbiterRun
  rw [h]
  unfold arbiterRuns
  rw [h]
  rfl

/-- Without a record on the stack the restore test does nothing (R132). -/
theorem restoreTest_empty {s : State} (h : s.stack = []) : s.restoreTest = s := by
  unfold State.restoreTest State.restorePasses
  rw [h]
  rfl

/-- An evaluation with nothing committed, waiting or shed computes the figures alone (R101). -/
theorem evaluate_quiet {s : State} (hc : s.ledger.commitList = []) (hq : s.queue = []) (hst : s.stack = []) (k : ShedCause) :
    s.evaluate k = s.recompute := by
  have hempty : s.recompute.committed = 0 := by
    have hlist : s.recompute.ledger.commitList = [] := hc
    simp [State.committed, hlist]
  unfold State.evaluate State.shedOrRestore
  rw [hempty, if_neg (Nat.not_lt_zero _), restoreTest_empty (by exact hst), arbiterRun_empty (by exact hq)]

/-- A port's record after entry to RUNNING: in SEARCH with a probe or DISABLED, by its admin setting (R170). -/
def State.woken (s : State) (p : Port) (admin : Bool) : PortRecord :=
  if admin then
    { s.port p with
      state := .search, recyclePhase := none, lockoutCause := none, operation := .probe, switch := .off
      countdown := .running s.settings.timing.detectionInterval }
  else { s.port p with state := .disabled, recyclePhase := none, lockoutCause := none, operation := .none, countdown := .idle }

theorem port_wakePort (s : State) (p q : Port) (hp : (s.port p).state = .dormant) :
    (s.wakePort p).port q = if q = p then s.woken p (s.portSettings p).admin else s.port q := by
  unfold State.wakePort
  rw [if_pos hp]
  by_cases ha : (s.portSettings p).admin = true
  · rw [if_pos ha, port_enterSearch, ha]
    rfl
  · have hoff : (s.portSettings p).admin = false := by simpa using ha
    rw [if_neg ha, port_updPort, hoff]
    rfl

/-- What waking ports leaves alone besides the host's part. -/
theorem kept_wakePorts (l : List Port) (s : State) :
    let t := l.foldl State.wakePort s
    t.ledger = s.ledger ∧ t.queue = s.queue ∧ t.stack = s.stack ∧ t.notices = s.notices ∧ t.supply = s.supply ∧ t.ceilings = s.ceilings :=
  foldl_keeps (P := fun t : State => t.ledger = s.ledger ∧ t.queue = s.queue ∧ t.stack = s.stack ∧ t.notices = s.notices
      ∧ t.supply = s.supply ∧ t.ceilings = s.ceilings) (fun t p ht => by
    unfold State.wakePort
    split
    · split <;> exact ht
    · exact ht) l s ⟨rfl, rfl, rfl, rfl, rfl, rfl⟩

/-- Each of some DORMANT ports wakes by its own admin setting (R170). -/
theorem port_wakePorts {l : List Port} (hl : l.Nodup) (q : Port) : ∀ s : State, (∀ p ∈ l, (s.port p).state = .dormant) →
    (l.foldl State.wakePort s).port q = if q ∈ l then s.woken q (s.portSettings q).admin else s.port q := by
  induction l with
  | nil => intro s _; rfl
  | cons p l ih =>
    intro s hs
    obtain ⟨hp, hl⟩ := List.nodup_cons.mp hl
    obtain ⟨hsp, hsl⟩ := List.forall_mem_cons.mp hs
    have hport := fun q => port_wakePort s p q hsp
    have hother : ∀ q ∈ l, (s.wakePort p).port q = s.port q := fun q hq => by
      rw [hport, if_neg fun h : q = p => hp (h ▸ hq)]
    rw [List.foldl_cons, ih hl _ fun q hq => by rw [hother q hq]; exact hsl q hq]
    by_cases hq : q ∈ l
    · have hset := sameHost_settings (sameHost_wakePort p s)
      rw [if_pos hq, if_pos (List.mem_cons_of_mem p hq), portSettings_congr hset]
      unfold State.woken
      rw [hother q hq, hset]
    · rw [if_neg hq, hport]
      by_cases hqp : q = p
      · subst hqp; simp
      · simp [hqp, hq]

/-- A quiet HELD unit enters RUNNING by waking its ports and computing its figures (R170). -/
theorem enterRunning_quiet {s : State} (hu : s.unit.unitState = .held) (hq : s.heldQuiet) (i : Fin 2) (n : Option NoticeBody) :
    ∃ w : State, s.enterRunning i n = w.recompute
      ∧ (∀ p, w.port p = s.woken p ((s.settings.profiles.get i).get p).admin)
      ∧ w.ledger.commitList = [] ∧ w.queue = [] ∧ w.stack = [] ∧ w.notices = (s.announce n).notices
      ∧ w.supply = s.supply ∧ w.ceilings = s.ceilings := by
  obtain ⟨hdormant, hcommit, hqueue, hstack⟩ := hq hu
  have hann : ∀ p, ((s.commissioned i).announce n).port p = s.port p := fun p => by
    cases n with
    | none => rfl
    | some b => exact port_post _ b p
  obtain ⟨hl', hqu', hst', hno', hsu', hce'⟩ : ((s.commissioned i).announce n).ledger = s.ledger
      ∧ ((s.commissioned i).announce n).queue = s.queue
      ∧ ((s.commissioned i).announce n).stack = s.stack ∧ ((s.commissioned i).announce n).notices = (s.announce n).notices
      ∧ ((s.commissioned i).announce n).supply = s.supply ∧ ((s.commissioned i).announce n).ceilings = s.ceilings := by
    cases n with
    | none => exact ⟨rfl, rfl, rfl, rfl, rfl, rfl⟩
    | some b => exact ⟨post_ledger _ b, post_queue _ b, post_stack _ b, (notices_post _ b).trans (notices_post s b).symm,
        post_supply _ b, post_ceilings _ b⟩
  have hports := port_wakePorts (show allPorts.Nodup from List.nodup_finRange 56)
  have hkept := kept_wakePorts allPorts ((s.commissioned i).announce n)
  have heq := enterRunning_eq s i n
  have hsettings := sameHost_settings (sameHost_announce (s.commissioned i) n)
  have hwoken : ∀ p, (allPorts.foldl State.wakePort ((s.commissioned i).announce n)).port p
      = s.woken p ((s.settings.profiles.get i).get p).admin := fun p => by
    rw [hports p _ fun q _ => by rw [hann]; exact hdormant q, if_pos (show p ∈ allPorts from List.mem_finRange p),
      portSettings_congr hsettings]
    unfold State.woken
    rw [hann, hsettings]
    rfl
  generalize allPorts.foldl State.wakePort ((s.commissioned i).announce n) = w at hkept heq hwoken
  obtain ⟨hl, hqu, hst, hno, hsu, hce⟩ := hkept
  have hlist : w.ledger.commitList = [] := by rw [hl, hl', hcommit]
  have hwq : w.queue = [] := hqu.trans (hqu'.trans hqueue)
  have hws : w.stack = [] := hst.trans (hst'.trans hstack)
  exact ⟨w, heq.trans (evaluate_quiet hlist hwq hws _), hwoken, hlist, hwq, hws, hno.trans hno', hsu.trans hsu', hce.trans hce'⟩

/-- What entry to RUNNING makes of the unit, the settings, the ports and the lists of a quiet HELD unit (R170). -/
def State.entered (s : State) (i : Fin 2) (n : Option NoticeBody) (t : State) : Prop :=
  t.unit = { s.unit with unitState := .running, autonomy := .idle } ∧ t.settings = { s.settings with inForce := i }
    ∧ (∀ p, t.port p = s.woken p ((s.settings.profiles.get i).get p).admin)
    ∧ t.figuresCurrent ∧ t.ledger.commitList = [] ∧ t.queue = [] ∧ t.stack = [] ∧ t.notices = (s.announce n).notices
    ∧ t.supply = s.supply ∧ t.ceilings = s.ceilings ∧ t.now = s.now

theorem entered_enterRunning {s : State} (hu : s.unit.unitState = .held) (hq : s.heldQuiet) (i : Fin 2) (n : Option NoticeBody) :
    s.entered i n (s.enterRunning i n) ∧ (s.enterRunning i n).line = s.line := by
  obtain ⟨hset, hline, hunit, hnow, -, -⟩ := sameHost_enterRunning s i n
  obtain ⟨w, heq, hport, hlist, hqueue, hstack, hnot, hsup, hceil⟩ := enterRunning_quiet hu hq i n
  have hfig : (s.enterRunning i n).figuresCurrent := by
    rw [enterRunning_eq]
    exact figuresCurrent_evaluate _ _
  rw [heq] at hset hline hunit hnow hfig ⊢
  exact ⟨⟨hunit, hset, fun p => (port_recompute w p).trans (hport p), hfig, hlist, hqueue, hstack, hnot, hsup, hceil, hnow⟩, hline⟩

/-- The byte of a profile index names that profile (R171). -/
theorem profileOfByte_byteOf (i : Fin 2) (rest : List Byte) : profileOfByte (byteAt (byteOf i.val :: rest) 0) = some i := by
  fin_cases i <;> rfl

theorem profileOfByte_high {b : Byte} (h : 2 ≤ b.toNat) (rest : List Byte) : profileOfByte (byteAt (b :: rest) 0) = none :=
  dif_neg (Nat.not_lt_of_le h)

theorem answerCommission_held {s : State} (hu : s.unit.unitState = .held) (i : Fin 2) :
    answerCommission [byteOf i.val] s = accept false (s.enterRunning i none) := by
  unfold answerCommission
  rw [if_neg (by simp), profileOfByte_byteOf]
  dsimp only
  rw [hu]

theorem answerCommission_running {s : State} (hu : s.unit.unitState = .running) (i : Fin 2) :
    answerCommission [byteOf i.val] s = refuse s .wrongState := by
  unfold answerCommission
  rw [if_neg (by simp), profileOfByte_byteOf]
  dsimp only
  rw [hu]

theorem answerCommission_badIndex (s : State) {b : Byte} (hb : 2 ≤ b.toNat) : answerCommission [b] s = refuse s .badIndex := by
  unfold answerCommission
  rw [if_neg (by simp), profileOfByte_high hb]

/-- Settles O7. -/
theorem commissionAndAutonomyEnterRunning : Obligations.CommissionAndAutonomyEnterRunning := by
  refine ⟨fun s i d hs => ⟨fun hu hq hr => ?_, fun hu => ?_, fun b hb => ?_⟩, fun s hs => ⟨fun hu hq hd => ?_, fun h => ?_⟩⟩
  · obtain ⟨hent, hline⟩ := entered_enterRunning hu hq i none
    have hans := answerCommission_held hu i
    generalize s.enterRunning i none = v at hent hline hans
    cases d with
    | own =>
      obtain ⟨hunit, hset, hport, hfig, hcommit, hqueue, hstack, hnot, hsup, hceil, hnow⟩ := hent
      exact ⟨_, answers_of_handler (k := .commission) (body := [byteOf i.val]) rfl hs (by simp [Config.maxBody]) hans, hunit, hset, fun p => hport p,
        hfig, hcommit, hqueue, hstack, hnot, hsup, hceil, hnow, fun _ => ⟨rfl, rfl⟩, nofun⟩
    | broadcast =>
      obtain ⟨hunit, hset, hport, hfig, hcommit, hqueue, hstack, hnot, hsup, hceil, hnow⟩ := hent
      exact ⟨_, exec_broadcast_of_handler (k := .commission) (body := [byteOf i.val]) rfl rfl hs (by simp [Config.maxBody])
          (congrArg Answer.state hans) (by rw [accept_state, hline, hr]), hunit, hset, fun p => hport p,
        hfig, hcommit, hqueue, hstack, hnot, hsup, hceil, hnow, nofun,
        fun _ => ⟨show v.line.reply = _ by rw [hline], rfl⟩⟩
  · exact answers_of_handler (body := [byteOf i.val]) rfl hs (by simp [Config.maxBody]) (answerCommission_running hu i)
  · exact answers_of_handler (body := [b]) rfl hs (by simp [Config.maxBody]) (answerCommission_badIndex s hb)
  · obtain ⟨hent, hline⟩ :=
      entered_enterRunning hu hq 0 (some (.autonomousStart ((autonomySeconds s.unit.straps).getD 0)))
    have hexec : exec .autonomyExpiry s = .next _ := exec_next (taken_awake hs _) (if_pos ⟨hu, (expired_iff _).mpr hd⟩)
    generalize s.enterRunning 0 (some (.autonomousStart ((autonomySeconds s.unit.straps).getD 0))) = v at hent hline hexec
    obtain ⟨hunit, hset, hport, hfig, hcommit, hqueue, hstack, hnot, hsup, hceil, hnow⟩ := hent
    exact ⟨v, hexec, hunit, hset, fun p => hport p, hfig, hcommit, hqueue, hstack, hnot, hsup, hceil, hline, hnow⟩
  · refine exec_next (taken_awake hs _) (if_neg fun hg => ?_)
    obtain h | h := h
    · rw [h] at hg
      cases hg.1
    · exact h ((expired_iff _).mp hg.2)

end Sys2Proof.Machine
end

section
/-! PROOFS. The management line: what is ignored, discarded, collected and refused (R154 to R160), and when a reply begins (R159). -/

namespace Sys2Proof.Machine

/-! ### The receiver's examination of its buffer -/

/-- A number that a byte carries. -/
theorem byteOf_toNat {n : Nat} (h : n < 256) : (byteOf n).toNat = n := by
  simp only [byteOf, BitVec.toNat_ofNat]
  omega

/-- A buffer without its length byte asks for more (R154). -/
theorem examine_header {s : State} (h : s.line.buffer.length < 3) : s.examine = s := by
  unfold State.examine
  split
  next heq =>
    rw [heq] at h
    simp only [List.length_cons] at h
    omega
  · rfl

/-- A length above 200 discards the frame (R154). -/
theorem examine_tooLong {s : State} {addr kind len : Byte} {rest : List Byte} (hb : s.line.buffer = addr :: kind :: len :: rest)
    (h : 200 < len.toNat) : s.examine = s.discard := by
  unfold State.examine
  rw [hb]
  exact if_pos h

/-- A buffer without its frame's last byte asks for more (R154). -/
theorem examine_part {s : State} {addr kind len : Byte} {rest : List Byte} (hb : s.line.buffer = addr :: kind :: len :: rest)
    (hlen : len.toNat ≤ 200) (h : rest.length < len.toNat + 2) : s.examine = s := by
  unfold State.examine
  rw [hb]
  exact (if_neg (Nat.not_lt_of_le hlen)).trans (if_neg (Nat.ne_of_lt h))

/-- A buffer with its frame's last byte is checked (R155). -/
theorem examine_whole {s : State} {addr kind low high : Byte} {body : List Byte} (hlen : body.length ≤ 200)
    (hb : s.line.buffer = addr :: kind :: byteOf body.length :: (body ++ [low, high])) :
    s.examine = s.checkFrame addr kind body (BitVec.ofNat 16 (low.toNat + 256 * high.toNat)) := by
  have hbyte : (byteOf body.length).toNat = body.length := byteOf_toNat (by omega)
  unfold State.examine
  rw [hb]
  dsimp only
  rw [hbyte]
  refine (if_neg (Nat.not_lt_of_le hlen)).trans ((if_pos (by simp)).trans ?_)
  simp [read16, byteAt, List.getD_eq_getElem?_getD]

/-- A byte that joins the frame being collected (R154). -/
def State.joined (s : State) (b : Byte) : State :=
  { s with line := { s.line with buffer := s.line.buffer ++ [b], byteGap := .running 5 } }

theorem takeByte_joined {s : State} (h : s.line.receiver = .collecting) (b : Byte) : s.takeByte b false = (s.joined b).examine :=
  (takeByte_collecting h b false).trans (if_neg nofun)

/-- The two CRC bytes carry the CRC, low byte first (R155). -/
theorem ofNat_crcBytes_eq_iff (low high : Byte) (crc : BitVec 16) :
    BitVec.ofNat 16 (low.toNat + 256 * high.toNat) = crc ↔ low.toNat + 256 * high.toNat = crc.toNat := by
  have hl := low.isLt
  have hh := high.isLt
  rw [← BitVec.toNat_inj, BitVec.toNat_ofNat, Nat.mod_eq_of_lt (by omega)]

theorem frameCore_eq (addr kind : Byte) (body : List Byte) : frameCore addr kind body = addr :: kind :: byteOf body.length :: body :=
  rfl

/-! ### What is ignored -/

/-- A good frame to another address, or a broadcast of a kind that is not capable, ends the frame alone (R157). -/
theorem goodFrame_ignored {s : State} {addr kind : Byte} (body : List Byte) (ha : addr.toNat ≠ unitAddress s.unit.straps)
    (hk : addr ≠ 0 ∨ ∀ k, kindOfCode kind = some k → broadcastCapable k = false) : s.goodFrame addr kind body = s.hunt := by
  unfold State.goodFrame
  rw [if_neg ha]
  split
  next h0 =>
    have hk := hk.resolve_left (not_not_intro h0)
    cases hc : kindOfCode kind with
    | none => rfl
    | some k => simp [hk k hc]
  · rfl

/-- The kinds a broadcast can carry (R157). -/
theorem broadcastCapable_eq_false {k : RequestKind} (h : k ∉ [.commission, .restart, .selectProfile, .shedTo]) :
    broadcastCapable k = false := by
  cases k <;> simp_all [broadcastCapable]

theorem broadcastCapable_of_mem {k : RequestKind} (h : k ∈ [.commission, .restart, .selectProfile, .shedTo]) :
    broadcastCapable k = true := by
  cases k <;> simp_all [broadcastCapable]

/-- A closed receiver ignores what arrives on the line (R154). -/
theorem exec_ofLine_closed {c : Instr} (hc : c.ofLine = true) {s : State} (hs : s.awake) (hcl : s.line.receiver = .closed) :
    exec c s = .next s := by
  cases hr : c.requestOf with
  | some x =>
    obtain ⟨d, k, body⟩ := x
    rw [exec_request hr, unlessReset_awake hs]
    exact congrArg _ (arrive_closed hcl _ _ _ _)
  | none =>
    unfold Instr.ofLine at hc
    split at hc
    · exact exec_next (taken_awake hs _) (arrive_closed hcl _ _ _ _)
    · exact exec_next (taken_awake hs _) (arrive_closed hcl _ _ _ _)
    · exact exec_next (taken_awake hs _) (arrive_closed hcl _ _ _ _)
    · exact exec_next (taken_awake hs _) (takeByte_closed hcl _ _)
    · rw [hr] at hc
      cases hc

/-- Settles O9. -/
theorem lineIgnoresWhatIsNotForTheUnit : Obligations.LineIgnoresWhatIsNotForTheUnit := by
  refine ⟨fun c s hs hcl hc => exec_ofLine_closed hc hs hcl, fun addr kind body s hs hlen ha hk => ?_,
    fun c k body s hs hlen hc hk => ?_, fun kind body s hs hlen hk => ?_⟩
  · refine (taken_awake hs.1 _).trans (congrArg _ ?_)
    rw [arrive_hunting hs.2 hlen, checkFrame_good]
    exact goodFrame_ignored body ha (hk.imp_right fun h k hkc => broadcastCapable_eq_false (h k hkc))
  · exact (exec_request_broadcast hc hs hlen).trans (congrArg _ (if_neg (by simp [broadcastCapable_eq_false hk])))
  · refine (taken_awake hs.1 _).trans (congrArg _ ?_)
    dsimp only
    rw [arrive_hunting hs.2 hlen, checkFrame_good, goodFrame_own]
    unfold State.takeOwn answerKind
    rw [hk]
    rfl

/-! ### Discards -/

/-- Settles O10: each of the six ways a frame is discarded (R154, R155). -/
theorem discardedFramesAreCounted : Obligations.DiscardedFramesAreCounted := by
  intro s hs
  refine ⟨fun addr kind body crc hr hlen hcrc => ?_, fun f => taken_awake hs _, ?_, fun b hr => ?_, fun addr kind len hr hb hlen => ?_,
    fun addr kind low high body hr hlen hb hcrc => ?_⟩
  · refine (taken_awake hs _).trans (congrArg _ ?_)
    rw [arrive_hunting hr hlen]
    exact if_neg hcrc
  · refine (taken_awake hs _).trans (congrArg _ ?_)
    show State.expireByteGap s = _
    unfold State.expireByteGap
    simp only [expired_iff]
    rfl
  · exact (taken_awake hs _).trans (congrArg _ ((takeByte_collecting hr b true).trans (if_pos rfl)))
  · refine (taken_awake hs _).trans (congrArg _ ((takeByte_joined hr len).trans ?_))
    exact examine_tooLong (rest := []) (show s.line.buffer ++ [len] = _ by rw [hb]; rfl) hlen
  · refine (taken_awake hs _).trans (congrArg _ ((takeByte_joined hr high).trans ?_))
    rw [examine_whole (s := s.joined high) hlen (show s.line.buffer ++ [high] = addr :: kind :: _ :: (body ++ [low, high]) by simp [hb])]
    rw [← frameCore_eq] at hcrc
    exact if_neg (mt (ofNat_crcBytes_eq_iff low high _).mp hcrc)

/-! ### Bytes -/

/-- Settles O11: a byte by the receiver's condition, and the end of a reply (R154, R159). -/
theorem receiverBeginsCollectsAndReopens : Obligations.ReceiverBeginsCollectsAndReopens := by
  intro b fe s hs
  refine ⟨fun hr => ?_, fun hr hlen => ?_, fun addr kind len rest hr hb hlen hrest => ?_, fun addr kind low body hr hlen hb hcrc => ?_,
    fun hr => ?_, fun hrep hpend => ?_, fun hrep => ?_⟩
  · exact (taken_awake hs _).trans (congrArg _ (takeByte_hunting hr b fe))
  · refine (taken_awake hs _).trans (congrArg _ ((takeByte_joined hr b).trans (examine_header ?_)))
    show (s.line.buffer ++ [b]).length < 3
    rw [List.length_append, List.length_singleton]
    omega
  · exact (taken_awake hs _).trans (congrArg _ ((takeByte_joined hr b).trans (examine_part hb hlen hrest)))
  · refine (taken_awake hs _).trans (congrArg _ ((takeByte_joined hr b).trans ?_))
    rw [examine_whole (s := s.joined b) hlen (show s.line.buffer ++ [b] = addr :: kind :: _ :: (body ++ [low, b]) by simp [hb])]
    rw [← frameCore_eq] at hcrc
    exact if_pos ((ofNat_crcBytes_eq_iff low b _).mpr hcrc)
  · exact (taken_awake hs _).trans (congrArg _ (takeByte_closed hr b fe))
  · refine (taken_awake hs _).trans (congrArg _ ?_)
    obtain ⟨r, hr⟩ := Option.isSome_iff_exists.mp hrep
    show State.endReply s = _
    unfold State.endReply
    rw [hr]
    exact if_neg (by rw [show (s.hunt.updLine _).line.restartPending = s.line.restartPending from rfl, hpend]; nofun)
  · refine (taken_awake hs _).trans (congrArg _ ?_)
    show State.endReply s = _
    unfold State.endReply
    rw [hrep]

/-! ### The beginning of a reply -/

theorem ticks_succ (n : Nat) : ∀ s : State, ticks (n + 1) s = (ticks n s).tick := by
  induction n with
  | zero => exact fun _ => rfl
  | succ n ih => exact fun s => ih s.tick

/-- The timebase leaves a reply in its buffer, and a driver enabled for it enabled (R159). -/
theorem reply_tick (s : State) : s.tick.line.reply = s.line.reply := by
  show (s.line.tick s.free).reply = _
  unfold Line.tick
  dsimp only
  split <;> rfl

theorem driver_tick {s : State} (h : s.line.driver = true) : s.tick.line.driver = true := by
  show (s.line.tick s.free).driver = _
  unfold Line.tick
  rw [if_neg (by simp [h])]
  exact h

/-- A waiting reply begins at a tick or is a tick older, and begins at the tenth (R159). -/
theorem driver_or_age_tick {s : State} (hr : s.line.reply.isSome = true) (hd : s.line.driver = false) :
    s.tick.line.driver = true ∨ s.tick.line.replyAge = s.line.replyAge + 1 ∧ s.line.replyAge + 1 < 10 := by
  have hline : s.tick.line = { s.line with
      byteGap := s.line.byteGap.tick, replyAge := s.line.replyAge + 1
      driver := decide (replyLatest ≤ s.line.replyAge + 1) || Config.replyBegins s.free } := if_pos ⟨hr, hd⟩
  rw [hline]
  by_cases h : 10 ≤ s.line.replyAge + 1
  · exact .inl (by simp [replyLatest, h])
  · exact .inr ⟨rfl, Nat.lt_of_not_le h⟩

theorem ticks_kept (s : State) (j : Nat) : (ticks j s).line.reply = s.line.reply ∧ (ticks j s).unit.straps = s.unit.straps := by
  induction j with
  | zero => exact ⟨rfl, rfl⟩
  | succ j ih =>
    obtain ⟨hreply, hstraps⟩ := ih
    rw [ticks_succ]
    exact ⟨(reply_tick _).trans hreply, hstraps⟩

/-- After so many ticks a waiting reply has begun, or is so many ticks old and younger than ten (R159). -/
theorem ticks_driver_or_age {s : State} (hr : s.line.reply.isSome = true) (ha : s.line.replyAge = 0) (j : Nat) :
    (ticks j s).line.driver = true ∨ (ticks j s).line.replyAge = j ∧ j < 10 := by
  induction j with
  | zero => exact .inr ⟨ha, by omega⟩
  | succ j ih =>
    rw [ticks_succ]
    cases hd : (ticks j s).line.driver with
    | true => exact .inl (driver_tick hd)
    | false =>
      obtain h | ⟨hage, -⟩ := ih
      · rw [hd] at h
        cases h
      · have hreply : (ticks j s).line.reply.isSome = true := by rw [(ticks_kept s j).1, hr]
        simpa only [hage] using driver_or_age_tick hreply hd

theorem ticks_driver_mono {s : State} {k : Nat} (h : (ticks k s).line.driver = true) {j : Nat} (hj : k ≤ j) :
    (ticks j s).line.driver = true := by
  induction j, hj using Nat.le_induction with
  | base => exact h
  | succ j _ ih =>
    rw [ticks_succ]
    exact driver_tick ih

/-- Settles O12: the reply begins at the first tick that enables the driver, at the latest the tenth. -/
theorem replyBeginsWithinTenMilliseconds : Obligations.ReplyBeginsWithinTenMilliseconds := by
  intro s r hr hd ha
  have hten : (ticks 10 s).line.driver = true := (ticks_driver_or_age (by rw [hr]; rfl) ha 10).resolve_right fun h => by omega
  have hbegins : ∃ k, (ticks k s).line.driver = true := ⟨10, hten⟩
  refine ⟨Nat.find hbegins, ?_, Nat.find_min' hbegins hten, fun j hj => ?_, fun j hj => ?_⟩
  · refine Nat.pos_of_ne_zero fun h0 => ?_
    have hzero : s.line.driver = true := by
      have := Nat.find_spec hbegins
      rw [h0] at this
      exact this
    rw [hd] at hzero
    cases hzero
  · unfold State.transmitted
    exact if_neg (Nat.find_min hbegins hj)
  · obtain ⟨hreply, hstraps⟩ := ticks_kept s j
    unfold State.transmitted
    rw [if_pos (ticks_driver_mono (Nat.find_spec hbegins) hj), hreply, hr, hstraps]
    rfl

/-! ### Refusals -/

/-- An answer that accepts, or one that changes nothing and reports its status alone (R160). -/
def Answer.fits (a : Answer) (s : State) : Prop := a.status = .done ∨ a.status = .doneClamped ∨ a.content = [] ∧ a.state = s

theorem fits_refuse (s : State) (st : Status) : (refuse s st).fits s := .inr (.inr ⟨rfl, rfl⟩)

theorem fits_acceptedStatus (changed : Bool) (content : List Byte) (s t : State) :
    (⟨acceptedStatus changed, content, t⟩ : Answer).fits s := by
  cases changed
  · exact .inl rfl
  · exact .inr (.inl rfl)

theorem fits_accept (changed : Bool) (s t : State) : (accept changed t).fits s := fits_acceptedStatus changed [] s t

theorem fits_report (content : List Byte) (s t : State) : (report content t).fits s := .inl rfl

/-- The checks of a request that has one length and then acts: refused with BAD_FRAME by its length, or as its other checks say (R158). -/
theorem fits_of_length {s : State} {body : List Byte} {n : Nat} {a : Answer} (h : a.fits s) :
    (if body.length ≠ n then refuse s .badFrame else a).fits s := by
  split
  · exact fits_refuse _ _
  · exact h

theorem fits_answerSetWindow (body : List Byte) (s : State) : (answerSetWindow body s).fits s := by
  unfold answerSetWindow
  split
  · exact fits_refuse _ _
  · split
    · exact fits_refuse _ _
    · split
      · exact fits_of_length (fits_accept _ _ _)
      · refine fits_of_length ?_
        split
        · exact fits_refuse _ _
        · dsimp only
          split
          · exact fits_refuse _ _
          · exact fits_accept _ _ _

theorem fits_answerCommand (k : PortCommand) (p : Port) (s : State) : (answerCommand k p s).fits s := by
  cases k with
  | enable => exact fits_accept _ _ _
  | disable => exact fits_accept _ _ _
  | clear =>
    show (answerClear p s).fits s
    unfold answerClear
    split
    · exact fits_accept _ _ _
    · exact fits_accept _ _ _
    · exact fits_refuse _ _
  | recycle =>
    show (answerRecycle p s).fits s
    unfold answerRecycle
    split
    · exact fits_refuse _ _
    · split
      · exact fits_accept _ _ _
      · exact fits_refuse _ _

theorem fits_answerPortCommand (body : List Byte) (s : State) : (answerPortCommand body s).fits s := by
  unfold answerPortCommand
  split
  · exact fits_refuse _ _
  · exact fits_refuse _ _
  · split
    · exact fits_refuse _ _
    · exact fits_refuse _ _
    · split
      · exact fits_refuse _ _
      · exact fits_refuse _ _
      · exact fits_answerCommand _ _ _

/-- Every handler accepts, or changes nothing and reports its status alone (R160). -/
theorem fits_handler (k : RequestKind) (body : List Byte) (s : State) : (handler k body s).fits s := by
  cases k with
  | identify =>
    refine fits_of_length ?_
    split
    · exact fits_refuse _ _
    · exact fits_report _ _ _
  | commission =>
    refine fits_of_length ?_
    split
    · exact fits_refuse _ _
    · split
      · exact fits_refuse _ _
      · exact fits_accept _ _ _
  | restart => exact fits_of_length (fits_accept _ _ _)
  | setPort =>
    refine fits_of_length ?_
    split
    · exact fits_refuse _ _
    · split
      · exact fits_refuse _ _
      · split
        · exact fits_accept _ _ _
        · exact fits_refuse _ _
  | setGrades => exact fits_of_length (fits_accept _ _ _)
  | setTiming => exact fits_of_length (fits_accept _ _ _)
  | setSupply => exact fits_of_length (fits_accept _ _ _)
  | setWindow => exact fits_answerSetWindow body s
  | selectProfile =>
    refine fits_of_length ?_
    split
    · exact fits_refuse _ _
    · exact fits_accept _ _ _
  | portCommand => exact fits_answerPortCommand body s
  | shedTo =>
    refine fits_of_length ?_
    split
    · exact fits_refuse _ _
    · exact fits_accept _ _ _
    · exact fits_accept _ _ _
  | readPort =>
    refine fits_of_length ?_
    split
    · exact fits_refuse _ _
    · exact fits_refuse _ _
    · exact fits_report _ _ _
  | readLedger => exact fits_of_length (fits_report _ _ _)
  | readQueue =>
    refine fits_of_length ?_
    split
    · exact fits_report _ _ _
    · exact fits_refuse _ _
  | readStack =>
    refine fits_of_length ?_
    split
    · exact fits_report _ _ _
    · exact fits_refuse _ _
  | readGap => exact fits_of_length (fits_report _ _ _)
  | takeNotices => exact fits_of_length (fits_acceptedStatus _ _ _ _)

/-- A body of another length than its kind's is a BAD_FRAME (R158). -/
theorem handler_wrongLength {k : RequestKind} {n : Nat} (hn : bodyLengthOf k = some n) (hk : k ≠ .portCommand) {body : List Byte}
    (hlen : body.length ≠ n) (s : State) : handler k body s = refuse s .badFrame := by
  cases k <;> simp only [bodyLengthOf, Option.some.injEq, reduceCtorEq] at hn <;> subst hn
  case portCommand => exact absurd rfl hk
  all_goals exact if_pos hlen

/-- A refused broadcast leaves the receiver hunting and nothing else changed (R157, R160). -/
theorem exec_broadcast_refused {c : Instr} {k : RequestKind} {body : List Byte} (h : c.requestOf = some (.broadcast, k, body))
    (hk : broadcastCapable k = true) {s : State} (hs : s.listening) (hr : s.line.restartPending = false)
    (hlen : body.length ≤ 200) {st : Status} (ha : handler k body s = refuse s st) : exec c s = .next s.hunting :=
  exec_broadcast_of_handler h hk hs hlen (congrArg Answer.state ha) hr

/-- A selector or flag byte above 1 names nothing (R174). -/
theorem flagOfByte_high {b : Byte} (h : 2 ≤ b.toNat) (rest : List Byte) : flagOfByte (byteAt (b :: rest) 0) = none := by
  show flagOfByte b.toNat = none
  unfold flagOfByte
  split
  · omega
  · omega
  · rfl

theorem answerSelectProfile_badIndex (s : State) {b : Byte} (hb : 2 ≤ b.toNat) : answerSelectProfile [b] s = refuse s .badIndex := by
  unfold answerSelectProfile
  rw [if_neg (by simp), profileOfByte_high hb]

theorem answerShedTo_badField (s : State) {b : Byte} {cap : List Byte} (hb : 2 ≤ b.toNat) (hcap : cap.length = 3) :
    answerShedTo (b :: cap) s = refuse s .badField := by
  unfold answerShedTo
  rw [if_neg (by simp [hcap]), flagOfByte_high hb]

/-- A Commission with an index above 1, or of a RUNNING unit, is refused (R171). -/
theorem answerCommission_refused {s : State} {b : Byte} (h : 2 ≤ b.toNat ∨ s.unit.unitState = .running) :
    ∃ st, answerCommission [b] s = refuse s st := by
  by_cases hb : 2 ≤ b.toNat
  · exact ⟨_, answerCommission_badIndex s hb⟩
  · unfold answerCommission
    rw [if_neg (by simp), h.resolve_left hb]
    split
    · exact ⟨_, rfl⟩
    · exact ⟨_, rfl⟩

/-- Settles O13. -/
theorem refusedRequestChangesNothing : Obligations.RefusedRequestChangesNothing := by
  refine ⟨fun c k body s hc hs hlen => ⟨?_, fun n hn hk hne => ?_⟩, fun s hs hr => ⟨fun b hb => ?_, fun b hb => ?_, fun b cap hb hcap => ?_,
    fun c k body n hc hk hn hne hlen => ?_⟩⟩
  · exact ⟨_, _, _, exec_request_own hc hs hlen, fun hd hcl => ((fits_handler k body s).resolve_left hd).resolve_left hcl⟩
  · exact answers_of_handler hc hs hlen (handler_wrongLength hn hk hne s)
  · obtain ⟨st, h⟩ := answerCommission_refused hb
    exact exec_broadcast_refused (k := .commission) (body := [b]) rfl rfl hs hr (by simp) h
  · exact exec_broadcast_refused (k := .selectProfile) (body := [b]) rfl rfl hs hr (by simp) (answerSelectProfile_badIndex s hb)
  · exact exec_broadcast_refused (k := .shedTo) (body := b :: cap) rfl rfl hs hr (by simp [hcap]) (answerShedTo_badField s hb hcap)
  · have hcap := broadcastCapable_of_mem hk
    exact exec_broadcast_refused hc hcap hs hr hlen (handler_wrongLength hn (fun h => by rw [h] at hcap; cases hcap) hne s)

end Sys2Proof.Machine
end

section
/-! PROOFS. The bodies of the setting requests, and what Port Command's checks, Set Grades, Set Timing, Set Supply, Set Window and Shed To do (R13, R39, R44,
R64, R65, R80, R88). -/

namespace Sys2Proof.Machine

/-! ### Fields -/

theorem bytes16 {n : Nat} (h : n < 65536) : (byteOf n).toNat + 256 * (byteOf (n / 256)).toNat = n := by
  simp only [byteOf, BitVec.toNat_ofNat]
  omega

theorem bytes24 {n : Nat} (h : n < 16777216) :
    (byteOf n).toNat + 256 * (byteOf (n / 256)).toNat + 65536 * (byteOf (n / 65536)).toNat = n := by
  simp only [byteOf, BitVec.toNat_ofNat]
  omega

theorem roundDown_eq (step v : Nat) : roundDown step v = v - v % step := by
  have := Nat.div_add_mod v step
  unfold roundDown
  omega

theorem clamp_zero (high v : Nat) : clamp 0 high v = min v high := Nat.zero_max _

/-- The status of an acceptance, by whether what was stored is what was carried (R160). -/
theorem acceptedStatus_bne {α : Type} [BEq α] [LawfulBEq α] (a b : α) [Decidable (a = b)] :
    acceptedStatus (a != b) = if a = b then .done else .doneClamped := by
  unfold acceptedStatus
  by_cases h : a = b <;> simp [h]

/-- A flag's byte names its flag (section 11.1). -/
theorem flagOfByte_flag (b : Bool) : flagOfByte (byteOf (if b then 1 else 0)).toNat = some b := by
  cases b <;> rfl

/-! ### The checks of Port Command -/

theorem portOfByte_none {b : Nat} (h : b = 0 ∨ 56 < b) : portOfByte b = none := dif_neg (by omega)

theorem portOfByte_some {b : Nat} (h : 1 ≤ b) (h' : b ≤ 56) : ∃ p, portOfByte b = some p := ⟨_, dif_pos ⟨h, h'⟩⟩

theorem commandOfByte_none {c : Byte} (h : c.toNat = 0 ∨ 4 < c.toNat) : commandOfByte c = none := by
  have hne : ∀ k : Byte, 1 ≤ k.toNat ∧ k.toNat ≤ 4 → c ≠ k := by
    rintro k hk rfl
    omega
  unfold commandOfByte
  rw [if_neg (hne _ (by decide)), if_neg (hne _ (by decide)), if_neg (hne _ (by decide)), if_neg (hne _ (by decide))]

theorem commandOfByte_some {c : Byte} (h : 1 ≤ c.toNat) (h' : c.toNat ≤ 4) : ∃ k, commandOfByte c = some k := by
  have hc : c = 1 ∨ c = 2 ∨ c = 3 ∨ c = 4 := by bv_omega
  obtain rfl | rfl | rfl | rfl := hc
  · exact ⟨.enable, rfl⟩
  · exact ⟨.disable, rfl⟩
  · exact ⟨.clear, rfl⟩
  · exact ⟨.recycle, rfl⟩

section
variable {s : State} (hr : s.unit.unitState = .running)
include hr

theorem answerPortCommand_empty : answerPortCommand [] s = refuse s .badFrame := by
  simp [answerPortCommand, hr]

theorem answerPortCommand_badPort {b : Byte} (hb : b.toNat = 0 ∨ 56 < b.toNat) (rest : List Byte) :
    answerPortCommand (b :: rest) s = refuse s .badPort := by
  simp [answerPortCommand, hr, portOfByte_none hb]

theorem answerPortCommand_short {b : Byte} (hb : 1 ≤ b.toNat) (hb' : b.toNat ≤ 56) : answerPortCommand [b] s = refuse s .badFrame := by
  obtain ⟨p, hp⟩ := portOfByte_some hb hb'
  simp [answerPortCommand, hr, hp]

theorem answerPortCommand_badField {b c : Byte} (hb : 1 ≤ b.toNat) (hb' : b.toNat ≤ 56) (hc : c.toNat = 0 ∨ 4 < c.toNat)
    (rest : List Byte) : answerPortCommand (b :: c :: rest) s = refuse s .badField := by
  obtain ⟨p, hp⟩ := portOfByte_some hb hb'
  simp [answerPortCommand, hr, hp, commandOfByte_none hc]

theorem answerPortCommand_long {b c : Byte} (hb : 1 ≤ b.toNat) (hb' : b.toNat ≤ 56) (hc : 1 ≤ c.toNat) (hc' : c.toNat ≤ 4)
    {rest : List Byte} (hrest : rest ≠ []) : answerPortCommand (b :: c :: rest) s = refuse s .badFrame := by
  obtain ⟨p, hp⟩ := portOfByte_some hb hb'
  obtain ⟨k, hk⟩ := commandOfByte_some hc hc'
  obtain ⟨x, rest, rfl⟩ := List.exists_cons_of_ne_nil hrest
  simp [answerPortCommand, hr, hp, hk]

end

theorem answerPortCommand_held {s : State} (hu : s.unit.unitState = .held) (body : List Byte) :
    answerPortCommand body s = refuse s .held := by
  unfold answerPortCommand
  rw [hu]

/-- The four Port Commands as requests (section 2.10). -/
theorem requestOf_portCommand {port : Byte} {extra : List Byte} {c : Instr}
    (hc : c ∈ [Instr.enable .own port extra, .disable .own port extra, .clear .own port extra, .recycle .own port extra]) :
    ∃ k : Byte, (1 ≤ k.toNat ∧ k.toNat ≤ 4) ∧ c.requestOf = some (.own, .portCommand, port :: k :: extra) := by
  simp only [List.mem_cons, List.not_mem_nil, or_false] at hc
  obtain rfl | rfl | rfl | rfl := hc
  · exact ⟨commandEnable, by decide, rfl⟩
  · exact ⟨commandDisable, by decide, rfl⟩
  · exact ⟨commandClear, by decide, rfl⟩
  · exact ⟨commandRecycle, by decide, rfl⟩

/-- Settles O14. -/
theorem portCommandChecksInOrder : Obligations.PortCommandChecksInOrder := by
  refine ⟨fun s body => ⟨fun hu => answerPortCommand_held hu _, fun hr => answerPortCommand_empty hr,
    fun hr b hb => answerPortCommand_badPort hr hb _, fun hr b hb hb' => answerPortCommand_short hr hb hb',
    fun hr b c hb hb' hc => answerPortCommand_badField hr hb hb' hc _,
    fun hr b c hb hb' hc hc' hne => answerPortCommand_long hr hb hb' hc hc' hne⟩, fun s port extra hs hlen c hc => ?_⟩
  obtain ⟨k, ⟨hk, hk'⟩, hreq⟩ := requestOf_portCommand hc
  have hbody : (port :: k :: extra).length ≤ 200 := by
    simp only [List.length_cons]
    omega
  exact ⟨fun hu => answers_of_handler hreq hs hbody (answerPortCommand_held hu _),
    fun hr hb => answers_of_handler hreq hs hbody (answerPortCommand_badPort hr hb _),
    fun hr hb hb' hne => answers_of_handler hreq hs hbody (answerPortCommand_long hr hb hb' hk hk' hne)⟩

/-! ### Set Grades and Set Timing -/

/-- A Set Grades body carries its seven powers (section 11.2). -/
theorem carriedGrades_gradesBody {g : Vector Nat 7} (h : ∀ i : Fin 7, g.get i < 65536) : carriedGrades (gradesBody g) = g := by
  obtain ⟨⟨l⟩, hl⟩ := g
  have hl' : l.length = 7 := hl
  match l, hl' with
  | [a, b, c, d, e, f, x], _ =>
    refine Vector.toArray_inj.mp (congrArg List.toArray ?_)
    exact congrArg₂ _ (bytes16 (h 0)) (congrArg₂ _ (bytes16 (h 1)) (congrArg₂ _ (bytes16 (h 2)) (congrArg₂ _ (bytes16 (h 3))
      (congrArg₂ _ (bytes16 (h 4)) (congrArg₂ _ (bytes16 (h 5)) (congrArg₂ _ (bytes16 (h 6)) rfl))))))

/-- A Set Timing body carries its fourteen settings (section 11.2). -/
theorem carriedTiming_timingBody {x : Timing} (h : x.carriable) : carriedTiming (timingBody x) = x := by
  obtain ⟨h1, h2, h3, h4, h5, h6, h7, h8, h9, h10, h11, h12, h13, h14⟩ := h
  cases x
  exact (Timing.mk.injEq ..).mpr ⟨bytes16 h1, bytes16 h2, byteOf_toNat h3, byteOf_toNat h4, bytes16 h5, byteOf_toNat h6, byteOf_toNat h7,
    bytes16 h8, byteOf_toNat h9, byteOf_toNat h10, bytes16 h11, byteOf_toNat h12, byteOf_toNat h13, byteOf_toNat h14⟩

/-- The timing settings as stored (section 2.12). -/
theorem take_timing_eq (x : Timing) : x.take =
    { detectionInterval := max 100 (min x.detectionInterval 2000), inrushLimit := max 20 (min x.inrushLimit 500)
      faultHoldoff := max 1 (min x.faultHoldoff 60), faultLimit := max 1 (min x.faultLimit 15)
      forgivenessTime := max 10 (min x.forgivenessTime 600)
      overcurrentTolerance := max 10 (min x.overcurrentTolerance 200)
      excursionThreshold := max 1 (min x.excursionThreshold 255), recycleWait := max 5 (min x.recycleWait 300)
      recycleOffTime := max 2 (min x.recycleOffTime 30), recycleLimit := max 1 (min x.recycleLimit 7)
      linkStableTime := max 60 (min x.linkStableTime 3600)
      linkSamplePeriod := if x.linkSamplePeriod ≤ 2 then 1 else if x.linkSamplePeriod ≤ 9 then 4 else 16
      inrushSlots := max 1 (min x.inrushSlots 4), passLimit := min x.passLimit 15 } := by
  have hperiod : nearestPeriod x.linkSamplePeriod
      = if x.linkSamplePeriod ≤ 2 then 1 else if x.linkSamplePeriod ≤ 9 then 4 else 16 := by
    unfold nearestPeriod
    split_ifs <;> omega
  unfold Timing.take
  rw [hperiod, clamp_zero]
  rfl

theorem answerSetGrades_body {g : Vector Nat 7} (h : ∀ i : Fin 7, g.get i < 65536) (s : State) : answerSetGrades (gradesBody g) s
    = accept (takeGrades g != g) { s with settings := { s.settings with grades := takeGrades g } } := by
  have hlen : (gradesBody g).length = 14 := by simp [gradesBody, field16]
  unfold answerSetGrades
  rw [if_neg (not_not_intro hlen), carriedGrades_gradesBody h]

theorem answerSetTiming_body {x : Timing} (h : x.carriable) (s : State) : answerSetTiming (timingBody x) s
    = accept (x.take != x) (s.storeTiming x.take) := by
  unfold answerSetTiming
  rw [if_neg (show ¬ (timingBody x).length ≠ 19 from not_not_intro rfl), carriedTiming_timingBody h]

/-- An accepted request to a listening unit is answered with its state (R158, R160). -/
theorem answers_of_accept {i : Instr} {k : RequestKind} {body : List Byte} (hi : i.requestOf = some (.own, k, body))
    {s : State} (hs : s.listening) (hb : body.length ≤ Config.maxBody) {changed : Bool} {u : State}
    (ha : handler k body s = accept changed u) {st : Status} (hst : acceptedStatus changed = st) : Answers i s k st [] u :=
  answers_of_handler hi hs hb (by rw [ha, ← hst]; rfl)

/-- Settles O16. -/
theorem setGradesAndSetTimingStore : Obligations.SetGradesAndSetTimingStore := by
  refine ⟨fun s g hs hg => ⟨takeGrades g, fun i => ?_, ?_⟩, fun s x hs hx => ?_⟩
  · exact mapAll_get _ _ _
  · exact answers_of_accept (k := .setGrades) (body := gradesBody g) rfl hs (by simp [gradesBody, field16, Config.maxBody]) (answerSetGrades_body hg s) (acceptedStatus_bne _ _)
  · intro stored u
    have hstored : x.take = stored := take_timing_eq x
    clear_value stored
    subst hstored
    exact ⟨take_inRange_timing x, answers_of_accept (k := .setTiming) (body := timingBody x) rfl hs (show 19 ≤ 200 by decide)
      (answerSetTiming_body hx s) (acceptedStatus_bne _ _)⟩

/-! ### Set Supply -/

/-- A Set Supply body carries its ten settings (section 11.2). -/
theorem carriedSupply_supplyBody {x : SupplySettings} (h : x.carriable) : carriedSupply (supplyBody x) = x := by
  obtain ⟨h1, h2, h3, h4, h5, h6, h7, h8, h9, h10⟩ := h
  cases x
  exact (SupplySettings.mk.injEq ..).mpr ⟨bytes16 h1, bytes24 h2, bytes24 h3, bytes16 h4, bytes16 h5, bytes24 h6, byteOf_toNat h7,
    bytes16 h8, bytes24 h9, byteOf_toNat h10⟩

/-- The supply settings as stored (R80). -/
theorem take_supply_eq (x : SupplySettings) : x.take =
    { settleTime := min x.settleTime 5000, rideCap := min x.rideCap 1800000, extendedCap := min x.extendedCap 1800000
      rideLimit := max 1 (min x.rideLimit 600), recoveryDelay := min x.recoveryDelay 5000
      guardBand := min x.guardBand 100000, derateStart := max 20 (min x.derateStart 100)
      derateSlope := min x.derateSlope 20000, restoreHysteresis := min x.restoreHysteresis 100000
      restoreHold := min x.restoreHold 60 } := by
  unfold SupplySettings.take
  simp only [clamp_zero]
  rfl

theorem answerSetSupply_body {x : SupplySettings} (h : x.carriable) (s : State) : answerSetSupply (supplyBody x) s
    = accept (x.take != x) (s.storeSupply x.take) := by
  unfold answerSetSupply
  rw [if_neg (show ¬ (supplyBody x).length ≠ 22 from not_not_intro rfl), carriedSupply_supplyBody h]

/-- An evaluation touches the Supply Monitor at its gap measurement alone (R75). -/
theorem supply_evaluate (s : State) (k : ShedCause) :
    (s.evaluate k).supply = { s.supply with measurement := (s.evaluate k).supply.measurement } :=
  evaluate_keeps (supplyProperty_kept (Q := fun m => m = { s.supply with measurement := m.measurement })
    fun m g h => by rw [h]) s k rfl

/-- Settles O17. -/
theorem setSupplyStoresAndEvaluates : Obligations.SetSupplyStoresAndEvaluates := by
  intro s x hs hx stored u
  have hstored : x.take = stored := take_supply_eq x
  clear_value stored
  subst hstored
  exact ⟨answers_of_accept (k := .setSupply) (body := supplyBody x) rfl hs (show 22 ≤ 200 by decide) (answerSetSupply_body hx s) (acceptedStatus_bne _ _),
    take_inRange_supply x, settings_evaluate _ _, figuresCurrent_evaluate _ _, supply_evaluate _ _⟩

/-! ### Set Window -/

/-- The evaluation that follows the re-match of a changed window table (R65). -/
theorem rematch_none {s : State} (h : s.supply.latestVoltage = none) : s.rematch = s := by
  unfold State.rematch
  rw [h]

theorem rematch_some {s : State} {v : Nat} (h : s.supply.latestVoltage = some v) :
    s.rematch = (s.windowRules (s.settings.matchWindow v)).1 := by
  unfold State.rematch
  rw [h]

theorem takeBudget_eq (v : Nat) : takeBudget v = min v 1800000 - min v 1800000 % 1000 := by
  unfold takeBudget
  rw [roundDown_eq, clamp_zero]
  rfl

theorem take_window_eq (x : Window) :
    x.take = ⟨x.enabled, min x.low 1500, min x.high 1500, min x.budget 1800000 - min x.budget 1800000 % 1000⟩ := by
  unfold Window.take
  rw [clamp_zero, clamp_zero, takeBudget_eq]

/-- A Set Window body carries its window (section 11.2). -/
theorem carriedWindow_windowBody (place : Fin 4) {x : Window} (hl : x.low < 65536) (hh : x.high < 65536) (hb : x.budget < 16777216) :
    carriedWindow (windowBody place x) x.enabled = x := by
  cases x
  exact (Window.mk.injEq ..).mpr ⟨rfl, bytes16 hl, bytes16 hh, bytes24 hb⟩

/-- An index byte from 1 to 4 names a window (R64). -/
theorem answerSetWindow_place (place : Fin 4) {b : Byte} (hb : b.toNat = place.val + 1) (rest : List Byte) (s : State) :
    answerSetWindow (b :: rest) s = answerWindow place (b :: rest) s := by
  have hw : windowOfByte b.toNat = some ⟨place.val + 1, by omega⟩ := by
    unfold windowOfByte
    rw [dif_pos (by omega)]
    exact congrArg some (Fin.ext hb)
  unfold answerSetWindow
  dsimp only
  rw [hw]
  rfl

theorem answerSetWindow_badIndex {b : Byte} (hb : 4 < b.toNat) (rest : List Byte) (s : State) :
    answerSetWindow (b :: rest) s = refuse s .badIndex := by
  have hw : windowOfByte b.toNat = none := dif_neg (by omega)
  unfold answerSetWindow
  dsimp only
  rw [hw]

/-- A Set Window whose length is not the one of its index (R64). -/
theorem answerSetWindow_wrongLength {b : Byte} {rest : List Byte}
    (h : (b.toNat = 0 ∧ rest.length ≠ 3) ∨ (1 ≤ b.toNat ∧ b.toNat ≤ 4 ∧ rest.length ≠ 8)) (s : State) :
    answerSetWindow (b :: rest) s = refuse s .badFrame := by
  obtain ⟨hb, hlen⟩ | ⟨hb, hb', hlen⟩ := h
  · obtain rfl : b = 0 := by bv_omega
    exact if_pos (by simpa using hlen)
  · rw [answerSetWindow_place ⟨b.toNat - 1, by omega⟩ (show b.toNat = b.toNat - 1 + 1 by omega)]
    exact if_pos (by simpa using hlen)

section
variable (s : State) (place : Fin 4) {x : Window} (hl : x.low < 65536) (hh : x.high < 65536) (hb : x.budget < 16777216)
include hl hh hb

theorem answerSetWindow_window : answerSetWindow (windowBody place x) s =
    if x.enabled = true ∧ ¬ x.take.low < x.take.high then refuse s .badField
    else accept (x.take != x) (s.storeWindow place x.take) := by
  have hflag : flagOfByte (byteAt (windowBody place x) 1) = some x.enabled := flagOfByte_flag x.enabled
  refine (answerSetWindow_place place (byteOf_toNat (by omega)) _ s).trans ?_
  show answerWindow place (windowBody place x) s = _
  unfold answerWindow
  rw [if_neg (show ¬ (windowBody place x).length ≠ 9 from not_not_intro rfl), hflag]
  dsimp only
  rw [carriedWindow_windowBody place hl hh hb]
  simp only [Nat.not_lt]

end

theorem answerSetWindow_budget {x : Nat} (hx : x < 16777216) (s : State) :
    answerSetWindow (defaultBudgetBody x) s = accept (takeBudget x != x) (s.storeDefaultBudget (takeBudget x)) := by
  have hcarried : read24 (defaultBudgetBody x) 1 = x := bytes24 hx
  show answerDefaultBudget (defaultBudgetBody x) s = _
  unfold answerDefaultBudget
  rw [if_neg (show ¬ (defaultBudgetBody x).length ≠ 4 from not_not_intro rfl), hcarried]

/-- Settles O18. -/
theorem setWindowStoresAndRematches : Obligations.SetWindowStoresAndRematches := by
  intro s hs
  refine ⟨fun place x hl hh hb => ?_, fun x hx => ?_, fun place b rest hlen hb => ?_, fun b rest hlen hb => ?_, ?_, fun b rest hlen h => ?_⟩
  · intro budget stored g
    have hstored : x.take = stored := take_window_eq x
    clear_value stored
    subst hstored
    have hans := answerSetWindow_window s place hl hh hb
    split
    next hbad => exact answers_of_handler (k := .setWindow) (body := windowBody place x) rfl hs (show 9 ≤ 200 by decide) (hans.trans (if_pos hbad))
    next hgood =>
      refine ⟨_, answers_of_accept (k := .setWindow) (body := windowBody place x) rfl hs (show 9 ≤ 200 by decide)
        (hans.trans (if_neg hgood)) (acceptedStatus_bne _ _), (settings_evaluate _ _).trans (settings_rematch _), figuresCurrent_evaluate _ _,
        fun hv => congrArg (State.evaluate · .setting) (rematch_none hv),
        fun v hv => congrArg (State.evaluate · .setting) (rematch_some hv)⟩
  · intro budget
    have hstored : takeBudget x = budget - budget % 1000 := takeBudget_eq x
    rw [← hstored]
    exact ⟨_, answers_of_accept (k := .setWindow) (body := defaultBudgetBody x) rfl hs (show 4 ≤ 200 by decide)
      (answerSetWindow_budget hx s) (acceptedStatus_bne _ _), (settings_evaluate _ _).trans (settings_rematch _), figuresCurrent_evaluate _ _,
      fun hv => congrArg (State.evaluate · .setting) (rematch_none hv),
      fun v hv => congrArg (State.evaluate · .setting) (rematch_some hv)⟩
  · refine answers_of_handler (k := .setWindow) (body := byteOf (place.val + 1) :: b :: rest) rfl hs (by simp [Config.maxBody, hlen]) ?_
    refine (answerSetWindow_place place (byteOf_toNat (by omega)) _ s).trans ?_
    unfold answerWindow
    rw [if_neg (by simp [hlen]), show flagOfByte (byteAt (byteOf (place.val + 1) :: b :: rest) 1) = none from flagOfByte_high hb rest]
    rfl
  · exact answers_of_handler (k := .setWindow) (body := b :: rest) rfl hs (Nat.succ_le_succ hlen) (answerSetWindow_badIndex hb rest s)
  · exact answers_of_handler (k := .setWindow) (body := []) rfl hs (Nat.zero_le _) rfl
  · exact answers_of_handler (k := .setWindow) (body := b :: rest) rfl hs (Nat.succ_le_succ hlen) (answerSetWindow_wrongLength h s)

/-! ### Shed To -/

theorem answerShedTo_body {cap : Option Nat} (hcap : ∀ v, cap = some v → v < 16777216) (s : State) :
    answerShedTo (shedToBody cap) s = ⟨if cap.map (min · 1800000) = cap then .done else .doneClamped, [],
      s.impose (cap.map (min · 1800000))⟩ := by
  cases cap with
  | none => rfl
  | some v =>
    have hcarried : read24 (shedToBody (some v)) 1 = v := bytes24 (hcap v rfl)
    have hclamp : clamp 0 maxBudget v = min v 1800000 := clamp_zero _ _
    show accept (clamp 0 maxBudget (read24 (shedToBody (some v)) 1) != read24 (shedToBody (some v)) 1)
      (s.impose (some (clamp 0 maxBudget (read24 (shedToBody (some v)) 1)))) = _
    rw [hcarried, hclamp]
    unfold accept
    rw [acceptedStatus_bne]
    simp

theorem imposedCap_evaluation (cap : Option Nat) : KeptByEvaluation fun t => t.ledger.imposedCap = cap where
  queued t e hk hf hn h := by
    obtain ⟨-, -, -, -, -, hcap⟩ := (monitors_kept t).queued t e hk hf hn ⟨rfl, rfl, rfl, rfl, rfl, rfl⟩
    exact hcap.trans h
  reserved t e hk hn h := by
    obtain ⟨-, -, -, -, -, hcap⟩ := (monitors_kept t).reserved t e hk hn ⟨rfl, rfl, rfl, rfl, rfl, rfl⟩
    exact hcap.trans h
  passes _ _ h := h
  pop t _ h := by rwa [ledger_popRecord]
  figures _ h := h
  shed t p _ h := by rwa [ledger_shedPort]
  batch t k b _ h := by rwa [ledger_makeBatch]

/-- Settles O23. -/
theorem shedToImposesTheCap : Obligations.ShedToImposesTheCap := by
  intro s cap hs hr hcap
  refine ⟨?_, fun b rest hlen hb => ?_, fun body hlen hne => ?_⟩
  · intro stored u
    have hans := answerShedTo_body hcap s
    have hlen : (shedToBody cap).length ≤ 200 := by
      cases cap <;> exact (show 4 ≤ 200 by decide)
    have hhost : s.sameHost u := sameHost_evaluate .imposed { s with ledger := { s.ledger with imposedCap := stored } }
    obtain ⟨-, hline, -⟩ := id hhost
    exact ⟨answers_of_handler (k := .shedTo) (body := shedToBody cap) rfl hs hlen hans,
      exec_broadcast_of_handler (k := .shedTo) (body := shedToBody cap) rfl rfl hs hlen (congrArg Answer.state hans)
        ((congrArg Line.restartPending hline).trans hr),
      evaluate_keeps (imposedCap_evaluation stored) _ _ rfl, figuresCurrent_evaluate _ _, hhost⟩
  · exact answers_of_handler (k := .shedTo) (body := b :: rest) rfl hs (by simp [Config.maxBody, hlen]) (answerShedTo_badField s hb hlen)
  · exact answers_of_handler (k := .shedTo) rfl hs hlen (if_pos hne)

end Sys2Proof.Machine
end

section
/-! PROOFS. What an evaluation leaves of a port that stands on no list, and the admin settings: ENABLE and DISABLE, Set Port, and Select Profile, with RECYCLE
(R15 to R18, R20, R40, R151). -/

namespace Sys2Proof.Machine

/-! ### A port on no list through runs and evaluations -/

/-- A record without its mark. -/
def PortRecord.unmarked (r : PortRecord) : PortRecord := { r with mark := none }

theorem not_movable_of_idle {st : PortState} (h : st.idle = true) : st.movable = false := by
  cases st <;> simp [PortState.idle, PortState.movable] at *

/-- A port in an idle state keeps its record through every evaluation, but for a mark that a batch takes (R127). -/
theorem idle_candidates {r : PortRecord} (hr : r.state.idle = true) (q : Port) :
    KeptByCandidates fun t => t.port q = r ∨ t.port q = r.unmarked := by
  have hstate : ∀ t : State, t.port q = r ∨ t.port q = r.unmarked → (t.port q).state = r.state := by
    rintro t (h | h) <;> rw [h]
    rfl
  have hsettled : ∀ t : State, t.port q = r ∨ t.port q = r.unmarked →
      KeptByRuns (fun v => v.port q = t.port q) := fun t h => settled_kept t q (not_movable_of_idle (by rw [hstate t h]; exact hr))
  exact {
    queued := fun t e hk hf hn h => by
      rw [(hsettled t h).queued t e hk hf hn rfl]
      exact h
    reserved := fun t e hk hn h => by
      rw [(hsettled t h).reserved t e hk hn rfl]
      exact h
    passes := fun _ _ h => h
    pop := fun t hp h => by
      rw [(hsettled t h).pop t hp rfl]
      exact h
    figures := fun _ h => h
    shed := fun t p _ _ hst h => by
      have hne : q ≠ p := by
        rintro rfl
        rw [hstate t h] at hst
        obtain hst | hst := hst
        · rw [not_committed_of_idle hr] at hst
          cases hst
        · exact ne_of_idle hr rfl hst
      rw [port_shedPort, if_neg hne]
      exact h
    batch := fun t k b _ h => by
      rw [port_makeBatch]
      obtain h | h := h <;> rw [h]
      · exact .inr rfl
      · exact .inr rfl }

theorem port_evaluate_idle {s : State} {q : Port} (hq : (s.port q).state.idle = true) (k : ShedCause) :
    (s.evaluate k).port q = s.port q ∨ (s.evaluate k).port q = (s.port q).unmarked :=
  evaluate_keeps_candidates (idle_candidates hq q) s k (.inl rfl)

theorem state_evaluate_idle {s : State} {q : Port} (hq : (s.port q).state.idle = true) (k : ShedCause) :
    ((s.evaluate k).port q).state = (s.port q).state := by
  obtain h | h := port_evaluate_idle hq k <;> rw [h]
  rfl

/-- A port that no run may move keeps its record through the run that a change asks for. -/
theorem port_follow {s : State} {q : Port} (hq : (s.port q).state.movable = false) (k : FollowUp) : (s.follow k).port q = s.port q :=
  follow_keeps (settled_kept s q hq) s k rfl

/-- A port that no record lists is listed by no run. -/
theorem unlisted_runs (q : Port) : KeptByRuns fun t => q ∉ t.listedPorts where
  queued t e _ _ _ h := by
    unfold State.listedPorts at *
    rwa [stack_grantQueued]
  reserved t e _ _ h := by
    unfold State.listedPorts at *
    rwa [stack_grantReserved]
  passes _ _ h := h
  pop t _ h := by
    unfold State.listedPorts at *
    cases hst : t.stack with
    | nil =>
      unfold State.popRecord
      rw [hst]
      simp [hst]
    | cons r below =>
      rw [stack_popRecord hst]
      rw [hst, List.flatMap_cons, List.mem_append, not_or] at h
      exact h.2

/-- The shed step's batch lists candidates alone (R126). -/
theorem shedStep_ports (ps : List Port) : ∀ (b : List ShedEntry) (s : State), ∀ e ∈ (shedStep ps b s).1, e ∈ b ∨ e.port ∈ ps := by
  induction ps with
  | nil => exact fun b s e he => .inl he
  | cons p ps ih =>
    intro b s e he
    unfold shedStep at he
    split at he
    · exact .inl he
    · obtain he | he := ih _ _ e he
      · rw [List.mem_append, List.mem_singleton] at he
        obtain he | rfl := he
        · exact .inl he
        · exact .inr List.mem_cons_self
      · exact .inr (List.mem_cons_of_mem p he)

theorem stack_shedStep (ps : List Port) (b : List ShedEntry) (s : State) : (shedStep ps b s).2.stack = s.stack := by
  induction ps generalizing b s with
  | nil => rfl
  | cons p ps ih =>
    unfold shedStep
    split
    · rfl
    · rw [ih, stack_shedPort]

/-- A port that is neither listed nor committed is listed by no evaluation (R125, R128). -/
theorem unlisted_evaluate {s : State} {q : Port} (hq : q ∉ s.listedPorts) (hc : (s.port q).state.committed = false) (k : ShedCause) :
    q ∉ (s.evaluate k).listedPorts := by
  refine arbiterRun_keeps (unlisted_runs q) _ ?_
  have hold : ∀ ps b, q ∉ (shedStep ps b s.recompute).2.listedPorts := fun ps b => by
    unfold State.listedPorts
    rw [stack_shedStep]
    exact hq
  unfold State.shedOrRestore
  split
  · dsimp only
    split
    · exact hold _ _
    · rw [(listedPorts_makeBatch _ _ _).mem_iff, List.mem_append, not_or]
      refine ⟨fun h => ?_, hold _ _⟩
      obtain ⟨e, he, rfl⟩ := List.mem_map.mp h
      obtain he | he := shedStep_ports _ _ _ e he
      · cases he
      · have hcommitted := (mem_candidates.mp he).2.2
        rw [show (s.recompute.port e.port).state = (s.port e.port).state from rfl, hc] at hcommitted
        cases hcommitted
  · exact restoreTest_keeps (unlisted_runs q) _ hq

/-! ### Ports by their admin setting -/

/-- The other ports when a port is disabled (R16). -/
theorem port_disablePort_ne {s : State} {p q : Port} (hq : q ≠ p) : (s.disablePort p).1.port q = s.port q := by
  have hrelease : (((s.leaveQueue p).release p).updPort p PortRecord.turnOff).port q = s.port q := by
    rw [port_disabled, if_neg hq]
  have hoff : (s.updPort p PortRecord.turnOff).port q = s.port q := port_updPort_ne s _ hq
  unfold State.disablePort
  dsimp only
  split
  · rfl
  · exact hoff
  · exact hoff
  · exact (port_left s p q _).trans (if_neg hq)
  · exact hrelease
  · exact hrelease
  · exact hrelease
  · exact (port_unshed s p q _).trans (if_neg hq)
  · exact hoff
  · exact hoff
  · exact hoff

/-- A disabled port's record (R16): with its front end off, and without a mark or an allocation that its state held. -/
theorem port_disablePort_self (s : State) (p : Port) :
    let r := (s.disablePort p).1.port p
    r.state = .disabled ∧ r.faultCount = (s.port p).faultCount ∧ r.grade = (s.port p).grade
      ∧ ((s.port p).state = .disabled ∧ r.mark = (s.port p).mark ∨ r.mark = none)
      ∧ ((s.port p).state.committed = false ∧ r.allocation = (s.port p).allocation ∨ r.allocation = none) := by
  have hrelease : (((s.leaveQueue p).release p).updPort p PortRecord.turnOff).port p = ((s.release p).port p).turnOff := by
    rw [port_disabled, if_pos rfl]
  have hreleased := port_release s p p
  rw [if_pos rfl] at hreleased
  have hoff : (s.updPort p PortRecord.turnOff).port p = (s.port p).turnOff := port_updPort_self s p _
  intro r
  have hr : r = if (s.port p).state = .disabled then s.port p
      else if (s.port p).state.committed then ((s.release p).port p).turnOff else (s.port p).turnOff := by
    unfold r State.disablePort
    dsimp only
    split
    next h => rw [if_pos h]
    next h => rw [h]; exact hoff
    next h => rw [h]; exact hoff
    next h => rw [h]; exact (port_left s p p _).trans (if_pos rfl)
    next h => rw [h]; exact hrelease
    next h => rw [h]; exact hrelease
    next h => rw [h]; exact hrelease
    next h => rw [h]; exact (port_unshed s p p _).trans (if_pos rfl)
    next h => rw [h]; exact hoff
    next h => rw [h]; exact hoff
    next h => rw [h]; exact hoff
  rw [hr]
  split
  next h => exact ⟨h, rfl, rfl, .inl ⟨h, rfl⟩, .inl ⟨by rw [h]; rfl, rfl⟩⟩
  · split
    next h =>
      rw [hreleased]
      exact ⟨rfl, rfl, rfl, .inr rfl, .inr rfl⟩
    next h => exact ⟨rfl, rfl, rfl, .inr rfl, .inl ⟨by simpa using h, rfl⟩⟩

/-- A disabled port leaves its shed record (R137). -/
theorem stack_disablePort (s : State) (p : Port) :
    (s.disablePort p).1.stack = if (s.port p).state = .shed then (s.shrinkRecord p).stack else s.stack := by
  unfold State.disablePort
  dsimp only
  split <;> simp_all

/-! ### ENABLE, DISABLE and RECYCLE -/

/-- A Port Command to a listening RUNNING unit is answered by its command (R39). -/
theorem answers_portCommand {i : Instr} {p : Port} {b : Byte} (hi : i.requestOf = some (.own, .portCommand, [byteOf (portNumber p), b]))
    {k : PortCommand} (hk : commandOfByte b = some k) {s : State} (hs : s.listening) (hr : s.unit.unitState = .running) {st : Status}
    {content : List Byte} {u : State} (ha : answerCommand k p s = ⟨st, content, u⟩) : Answers i s .portCommand st content u :=
  answers_of_handler hi hs (show 2 ≤ 200 by decide) ((answerPortCommand_running hr p hk).trans ha)

/-- A unit after DISABLE, with its follow-up run (R40). -/
def State.switchedOff (s : State) (p : Port) : State :=
  let r := (s.writeAdmin p false).disablePort p
  r.1.follow r.2

theorem switchedOff_keeps {P : State → Prop} (h : KeptByMoves P) {s : State} {p : Port} (hr : s.unit.unitState = .running)
    (hs : P (s.writeAdmin p false)) : P (s.switchedOff p) :=
  h.follow _ _ (disablePort_keeps h hr hs)

theorem port_switchedOff_self (s : State) (p : Port) :
    (s.switchedOff p).port p = ((s.writeAdmin p false).disablePort p).1.port p := by
  obtain ⟨hstate, -⟩ := port_disablePort_self (s.writeAdmin p false) p
  exact port_follow (by rw [hstate]; rfl) _

theorem port_switchedOff_ne {s : State} {p q : Port} (hq : q ≠ p) (hm : (s.port q).state.movable = false) :
    (s.switchedOff p).port q = s.port q := by
  have hne : ((s.writeAdmin p false).disablePort p).1.port q = s.port q := port_disablePort_ne hq
  exact (port_follow (by rw [hne]; exact hm) _).trans hne

/-- A port disabled while each SHED port is listed once is listed no more (R123, R137). -/
theorem not_listed_switchedOff {s : State} (p : Port) (hs : s.shedListed) : p ∉ (s.switchedOff p).listedPorts := by
  refine follow_keeps (unlisted_runs p) _ _ ?_
  have hstack := stack_disablePort (s.writeAdmin p false) p
  rw [show ((s.writeAdmin p false).port p).state = (s.port p).state from rfl] at hstack
  by_cases hst : (s.port p).state = .shed
  · have hlisted : ((s.writeAdmin p false).disablePort p).1.listedPorts = (s.shrinkRecord p).listedPorts := by
      unfold State.listedPorts
      rw [hstack, if_pos hst]
      rfl
    rw [hlisted, listedPorts_shrinkRecord]
    simp
  · have hlisted : ((s.writeAdmin p false).disablePort p).1.listedPorts = s.listedPorts := by
      unfold State.listedPorts
      rw [hstack, if_neg hst]
      rfl
    rw [hlisted, hs.2]
    exact hst

/-- Settles O20. -/
theorem enableAndDisableWriteAdmin : Obligations.EnableAndDisableWriteAdmin := by
  intro s p hs hr
  refine ⟨answers_portCommand (k := .enable) rfl rfl hs hr rfl, s.switchedOff p, answers_portCommand (k := .disable) rfl rfl hs hr rfl, ?_⟩
  obtain ⟨hstate, hcount, hgrade, hmark, halloc⟩ := port_disablePort_self (s.writeAdmin p false) p
  rw [← port_switchedOff_self] at hstate hcount hgrade hmark halloc
  have hset : (s.switchedOff p).settings = (s.writeAdmin p false).settings :=
    (settings_follow _ _).trans (sameHost_settings (sameHost_disablePort p _))
  refine ⟨hset, hstate, hcount, hgrade, fun q hq hm => port_switchedOff_ne hq hm, fun hc hqe hm hl ha => ⟨?_, ?_, ?_, ?_, ?_⟩⟩
  · obtain ⟨hoff, hmark⟩ | hmark := hmark
    · refine hmark.trans (Option.not_isSome_iff_eq_none.mp fun hsome => ?_)
      have hplaced := hm p hsome
      rw [show (s.port p).state = .disabled from hoff] at hplaced
      simp at hplaced
    · exact hmark
  · obtain ⟨hidle, halloc⟩ | halloc := halloc
    · refine halloc.trans (Option.isSome_eq_false_iff.mp ?_ |> Option.isNone_iff_eq_none.mp)
      exact (ha p).trans hidle
    · exact halloc
  · obtain ⟨-, hmem⟩ : (s.switchedOff p).commitExact := switchedOff_keeps commitExact_moves hr hc
    rw [hmem, hstate]
    nofun
  · obtain ⟨-, hmem, -⟩ : (s.switchedOff p).queueExact := switchedOff_keeps queueExact_moves hr hqe
    rw [hmem, hstate]
    simp
  · exact not_listed_switchedOff p hl

theorem answerRecycle_on {s : State} {c : Ceiling} (h : (s.port (ceilingPort c)).state = .on) :
    answerRecycle (ceilingPort c) s = accept false (s.recycleForced c) := by
  unfold answerRecycle
  rw [ceilingOf_eq_some.mpr rfl]
  exact if_pos h

theorem answerRecycle_off {s : State} {c : Ceiling} (h : (s.port (ceilingPort c)).state ≠ .on) :
    answerRecycle (ceilingPort c) s = refuse s .wrongState := by
  unfold answerRecycle
  rw [ceilingOf_eq_some.mpr rfl]
  exact if_neg h

theorem answerRecycle_seat {p : Port} (h : p.val < 48) (s : State) : answerRecycle p s = refuse s .notCeiling := by
  have hseat : ceilingOf p = none := dif_neg (Nat.not_le_of_lt h)
  unfold answerRecycle
  rw [hseat]

/-- A CEILING port's link record after its entry to RECYCLE (R147). -/
theorem ceiling_enterRecycle (s : State) (c d : Ceiling) : (s.enterRecycle (ceilingPort c)).ceiling d =
    if d = c then { s.ceiling c with active := false, linkCountdown := .idle, stableCountdown := .idle } else s.ceiling d := by
  unfold State.enterRecycle State.endSupervision
  rw [ceilingOf_eq_some.mpr rfl]
  exact ceiling_updCeiling _ _ _ _

/-- Settles O22. -/
theorem forcedRecycleOfACeilingPort : Obligations.ForcedRecycleOfACeilingPort := by
  intro s hs hr
  refine ⟨fun c hon => ?_, fun c hoff => answers_portCommand (p := ceilingPort c) (k := .recycle) rfl rfl hs hr (answerRecycle_off hoff),
    fun p hp => answers_portCommand (p := p) (k := .recycle) rfl rfl hs hr (answerRecycle_seat hp s)⟩
  have hport := fun q => port_enterRecycle s (ceilingPort c) q
  have hceiling := fun d => ceiling_enterRecycle s c d
  refine ⟨s.recycleForced c, answers_portCommand (p := ceilingPort c) (k := .recycle) rfl rfl hs hr (answerRecycle_on hon), ?_, fun q hq => ?_, ?_, fun d hd => ?_,
    ?_, sameHost_trans (sameHost_enterRecycle _ s) (sameHost_post _ _), ?_⟩
  · exact (port_post _ _ _).trans ((hport _).trans (if_pos rfl))
  · exact (port_post _ _ _).trans ((hport q).trans (if_neg hq))
  · exact (ceiling_post _ _ _).trans ((hceiling c).trans (if_pos rfl))
  · exact (ceiling_post _ _ _).trans ((hceiling d).trans (if_neg hd))
  · have hkept : (s.enterRecycle (ceilingPort c)).notices = s.notices ∧ (s.enterRecycle (ceilingPort c)).now = s.now := by
      simp [State.enterRecycle]
    unfold State.recycleForced
    rw [notices_post, notices_post, hkept.1]
    unfold State.unitClock
    rw [hkept.2]
  · simp [State.recycleForced, State.enterRecycle]

end Sys2Proof.Machine
end

section
/-! PROOFS. Set Port (R15, R16, R18) and Select Profile (R20). -/

namespace Sys2Proof.Machine

/-! ### Set Port -/

theorem take_port_eq (x : PortSettings) : x.take =
    ⟨x.admin, x.priority, max 1000 (min x.cap 70000) - max 1000 (min x.cap 70000) % 50, min x.loss 250⟩ := by
  unfold PortSettings.take
  rw [roundDown_eq, clamp_zero]
  rfl

theorem take_port_eq_iff (x : PortSettings) : x.take = x
    ↔ max 1000 (min x.cap 70000) - max 1000 (min x.cap 70000) % 50 = x.cap ∧ min x.loss 250 = x.loss := by
  rw [take_port_eq]
  cases x
  simp

theorem priorityOfByte_byteOf (k : Priority) : priorityOfByte (byteOf k.val).toNat = some k := by
  fin_cases k <;> rfl

/-- A Set Port body for one of the profiles and ports is taken with its settings (section 11.2). -/
theorem answerSetPort_body (i : Fin 2) (p : Port) {x : PortSettings} (hc : x.cap < 16777216) (hl : x.loss < 65536) (s : State) :
    answerSetPort (setPortBody i p x) s = accept (x.take != x) (s.storePort i p x.take) := by
  have hcarried : carriedPort (setPortBody i p x) x.admin x.priority = x :=
    (PortSettings.mk.injEq ..).mpr ⟨rfl, rfl, bytes24 hc, bytes16 hl⟩
  unfold answerSetPort
  rw [if_neg (show ¬ (setPortBody i p x).length ≠ 9 from not_not_intro rfl),
    show profileOfByte (byteAt (setPortBody i p x) 0) = some i from profileOfByte_byteOf i _]
  dsimp only
  rw [show portOfByte (byteAt (setPortBody i p x) 1) = some p from portOfByte_portNumber p]
  dsimp only
  rw [show flagOfByte (byteAt (setPortBody i p x) 2) = some x.admin from flagOfByte_flag _,
    show priorityOfByte (byteAt (setPortBody i p x) 3) = some x.priority from priorityOfByte_byteOf _]
  dsimp only
  rw [hcarried]

/-- An accepted Set Port of a listening unit. -/
theorem answers_setPort {s : State} (hs : s.listening) (i : Fin 2) (p : Port) {x : PortSettings} (hc : x.cap < 16777216)
    (hl : x.loss < 65536) : Answers (.setPort .own (setPortBody i p x)) s .setPort
      (if max 1000 (min x.cap 70000) - max 1000 (min x.cap 70000) % 50 = x.cap ∧ min x.loss 250 = x.loss then .done else .doneClamped) []
      (s.storePort i p x.take) := by
  refine answers_of_accept (k := .setPort) (body := setPortBody i p x) rfl hs (show 9 ≤ 200 by decide) (answerSetPort_body i p hc hl s) ?_
  rw [acceptedStatus_bne]
  simp only [take_port_eq_iff]

/-- Which check refuses a Set Port of the right length (R15). -/
theorem answerSetPort_refused {a b c e : Byte} {rest : List Byte} (hlen : rest.length = 5) (s : State) :
    answerSetPort (a :: b :: c :: e :: rest) s
        = refuse s (if 2 ≤ a.toNat then .badIndex else if b.toNat = 0 ∨ 56 < b.toNat then .badPort else .badField)
      ∨ (a.toNat < 2 ∧ 1 ≤ b.toNat ∧ b.toNat ≤ 56 ∧ c.toNat < 2 ∧ e.toNat < 4) := by
  unfold answerSetPort
  rw [if_neg (by simp [hlen])]
  by_cases ha : 2 ≤ a.toNat
  · rw [profileOfByte_high ha, if_pos ha]
    exact .inl rfl
  · rw [if_neg ha, show profileOfByte (byteAt (a :: b :: c :: e :: rest) 0) = some ⟨a.toNat, Nat.lt_of_not_le ha⟩ from
      dif_pos (Nat.lt_of_not_le ha)]
    dsimp only
    by_cases hb : b.toNat = 0 ∨ 56 < b.toNat
    · rw [if_pos hb, show portOfByte (byteAt (a :: b :: c :: e :: rest) 1) = none from portOfByte_none hb]
      exact .inl rfl
    · rw [if_neg hb]
      obtain ⟨p, hp⟩ := portOfByte_some (b := b.toNat) (by omega) (by omega)
      rw [show portOfByte (byteAt (a :: b :: c :: e :: rest) 1) = some p from hp]
      dsimp only
      by_cases hce : c.toNat < 2 ∧ e.toNat < 4
      · exact .inr ⟨Nat.lt_of_not_le ha, by omega, by omega, hce⟩
      · left
        rw [not_and_or] at hce
        obtain hc | he := hce
        · rw [show flagOfByte (byteAt (a :: b :: c :: e :: rest) 2) = none from flagOfByte_high (Nat.le_of_not_lt hc) []]
        · rw [show priorityOfByte (byteAt (a :: b :: c :: e :: rest) 3) = none from dif_neg he]
          split
          next h => cases h
          · rfl

/-! ### The admin difference of the profile in force -/

section
variable (s : State) (p : Port) (x : PortSettings)

theorem sameHost_storeAdmin : (s.written p x).sameHost (s.storeAdmin p x).1 := by
  unfold State.storeAdmin
  split
  · exact sameHost_refl _
  · exact sameHost_applyAdmin p _ _

theorem storeAdmin_same (h : x.admin = (s.portSettings p).admin) : s.storeAdmin p x = (s.written p x, .none) := if_pos h

theorem storeAdmin_enable (h : (s.portSettings p).admin = false) (hx : x.admin = true) :
    s.storeAdmin p x = ((s.written p x).enablePort p, .none) := by
  unfold State.storeAdmin State.applyAdmin
  rw [h, hx]
  rfl

theorem storeAdmin_disable (h : (s.portSettings p).admin = true) (hx : x.admin = false) :
    s.storeAdmin p x = (s.written p x).disablePort p := by
  unfold State.storeAdmin State.applyAdmin
  rw [h, hx]
  rfl

end

/-- A priority change of a port that does not leave a shed record re-places its entry alone (R110). -/
theorem applyPriority_kept {s : State} {p : Port} {k : Priority} (h : ¬ ((s.port p).state = .shed ∧ k = 0)) :
    s.applyPriority p k = s.repriceEntry p k := if_neg h

/-- A SHED port raised to priority 0 leaves its record for SEARCH (R18, R137). -/
theorem applyPriority_raised {s : State} {p : Port} (h : (s.port p).state = .shed) :
    s.applyPriority p 0 = ((s.repriceEntry p 0).shrinkRecord p).enterSearch p := if_pos ⟨h, rfl⟩

/-- A priority change followed by its evaluation keeps a port's idle state (R18). -/
theorem state_applyPriority_evaluate {s : State} {p : Port} (h : (s.port p).state.idle = true) (k : Priority) :
    (((s.applyPriority p k).evaluate .setting).port p).state = (s.port p).state := by
  rw [applyPriority_kept fun hc => ne_of_idle h rfl hc.1]
  exact state_evaluate_idle (s := s.repriceEntry p k) h .setting

/-- A port that a Set Port's admin difference left in an idle state is in it after the whole of the Set Port. -/
theorem state_storePort {s : State} (hr : s.unit.unitState = .running) {p : Port} {x : PortSettings}
    (h : ((s.storeAdmin p x).1.port p).state.idle = true) :
    ((s.storePort s.settings.inForce p x).port p).state = ((s.storeAdmin p x).1.port p).state := by
  rw [storePort_inForce hr]
  split
  · rw [port_follow (not_movable_of_idle h)]
  · exact state_applyPriority_evaluate h _

/-- A Set Port of the profile in force with no admin and no priority difference writes the settings alone (R15). -/
theorem storePort_same {s : State} (hr : s.unit.unitState = .running) {p : Port} {x : PortSettings}
    (ha : x.admin = (s.portSettings p).admin) (hk : x.priority = s.priorityOf p) :
    s.storePort s.settings.inForce p x = s.written p x := by
  rw [storePort_inForce hr, if_pos hk, storeAdmin_same s p x ha]
  rfl

/-- Without a difference that acts, Set Port writes the settings alone (R15). -/
theorem storePort_quiet {s : State} {i : Fin 2} {p : Port} {x : PortSettings} (h : s.unit.unitState = .held ∨ i ≠ s.settings.inForce
      ∨ (((s.settings.profiles.get i).get p).admin = x.admin ∧ ((s.settings.profiles.get i).get p).priority = x.priority)) :
    s.storePort i p x = { s with settings := s.settings.writePort i p x } := by
  by_cases hact : i = s.settings.inForce ∧ s.unit.unitState = .running
  · obtain ⟨rfl, hr⟩ := hact
    obtain h | h | ⟨ha, hk⟩ := h
    · rw [hr] at h
      cases h
    · exact absurd rfl h
    · exact storePort_same hr ha.symm hk.symm
  · exact storePort_aside hact p x

/-- A SHED port without a mark raised to priority 0, after the evaluation: in SEARCH with a probe, and listed no more (R18, R137). -/
theorem raised_evaluate {s : State} {p : Port} (hst : (s.port p).state = .shed) (hm : (s.port p).mark = none) :
    let u := (s.applyPriority p 0).evaluate .setting
    (u.port p).state = .search ∧ (u.port p).operation = .probe ∧ (u.port p).mark = none ∧ p ∉ u.listedPorts := by
  have hraised := applyPriority_raised hst
  have hport : (s.applyPriority p 0).port p = { (s.port p).enter .search with
      switch := .off, operation := .probe, countdown := loadMs s.settings.timing.detectionInterval } := by
    rw [hraised]
    exact (port_enterSearch _ _ _).trans (if_pos rfl)
  have hidle : ((s.applyPriority p 0).port p).state.idle = true := by
    rw [hport]
    rfl
  have hunlisted : p ∉ (s.applyPriority p 0).listedPorts := by
    rw [show (s.applyPriority p 0).listedPorts = ((s.repriceEntry p 0).shrinkRecord p).listedPorts by rw [hraised]; rfl,
      listedPorts_shrinkRecord]
    simp
  intro u
  have hu : p ∉ u.listedPorts := unlisted_evaluate hunlisted (not_committed_of_idle hidle) _
  obtain h | h := port_evaluate_idle hidle .setting
  · have hup : u.port p = _ := h.trans hport
    rw [hup]
    exact ⟨rfl, rfl, hm, hu⟩
  · have hup : u.port p = _ := h.trans (congrArg PortRecord.unmarked hport)
    rw [hup]
    exact ⟨rfl, rfl, rfl, hu⟩

/-- Set Port keeps every entry at its port's priority in force (R110). -/
theorem queuePriced_storePort {s : State} (hr : s.unit.unitState = .running) (p : Port) (x : PortSettings) (hs : s.queuePriced) :
    (s.storePort s.settings.inForce p x).queuePriced := by
  obtain ⟨-, h⟩ := pricedOn_standing.storePort s s.settings.inForce p x ⟨heldQuiet_of_running hr, pricedOn_true.mpr hs⟩
  exact pricedOn_true.mp h

theorem queueOrdered_storeAdmin {s : State} (hr : s.unit.unitState = .running) (p : Port) (x : PortSettings) (hs : s.queueOrdered) :
    (s.storeAdmin p x).1.queueOrdered := by
  unfold State.storeAdmin
  split
  · exact hs
  · exact applyAdmin_keeps queueOrdered_moves hr hs

/-- Settles O15. -/
theorem setPortStoresItsSettings : Obligations.SetPortStoresItsSettings := by
  intro s i p x hs hc hl
  refine ⟨?quiet, ?changed, ?refused⟩
  case quiet =>
    intro cap stored old h
    have hstored : x.take = stored := take_port_eq x
    rw [← hstored]
    have hans := answers_setPort hs i p hc hl
    rwa [storePort_quiet (x := x.take) h] at hans
  case changed =>
    intro cap stored old w probing off marked a b u hr hi hne
    subst hi
    have hstored : x.take = stored := take_port_eq x
    clear_value stored
    subst hstored
    have ha : a = s.storeAdmin p x.take := by
      unfold a State.storeAdmin State.applyAdmin
      refine ite_congr rfl (fun _ => rfl) fun _ => ite_congr rfl (fun _ => rfl) fun _ => ?_
      have hport : (s.written p x.take).port p = s.port p := rfl
      unfold State.disablePort
      dsimp only
      rw [hport]
      cases (s.port p).state <;> rfl
    have hset : a.1.settings = w.settings := by
      rw [ha]
      exact sameHost_settings (sameHost_storeAdmin s p x.take)
    have hprobing : ∀ v : State, v.settings = w.settings → probing v = v.enterSearch p := fun v hv => by
      unfold State.enterSearch
      rw [hv]
      rfl
    have hb : a.1.applyPriority p x.priority = if (b.port p).state = .shed ∧ x.priority = 0 then probing (b.shrinkRecord p) else b := by
      rw [hprobing (b.shrinkRecord p) hset]
      rfl
    have hu : s.storePort s.settings.inForce p x.take = u := by
      rw [storePort_inForce hr, ← ha]
      refine ite_congr rfl (fun _ => ?_) fun _ => ?_
      · cases a.2 <;> rfl
      · rw [show x.take.priority = x.priority from rfl, hb]
        exact apply_ite (State.evaluate · .setting) _ _ _
    have hans := answers_setPort hs s.settings.inForce p hc hl
    rw [hu] at hans
    refine ⟨hans, ?_, fun hord => ?_, fun hpriced => ?_, ?_, fun hk => ?_, fun hold hnew => ?_, fun hold hnew hst => ?_,
      fun hadm hk hst hm => ?_⟩
    · exact reorder_perm _
    · have hbord : b.queueOrdered := queueOrdered_repriceEntry _ _ _ (by rw [ha]; exact queueOrdered_storeAdmin hr _ _ hord)
      exact (queueOrdered_iff.mp hbord).sorted
    · rw [← hu]
      exact queuePriced_storePort hr p _ hpriced
    · have hwritten : (s.storePort s.settings.inForce p x.take).settings = (s.written p x.take).settings := settings_storePort _ _ _ _
      rw [← hu, portSettings_congr hwritten]
      exact (portSettings_written s p p _).trans (if_pos rfl)
    · have hkne : x.take.priority ≠ s.priorityOf p := Ne.symm hk
      rw [← hu, storePort_inForce hr, if_neg hkne]
      exact figuresCurrent_evaluate _ _
    · obtain ⟨hoff, -⟩ := port_disablePort_self (s.written p x.take) p
      rw [← storeAdmin_disable s p x.take hold hnew] at hoff
      rw [← hu, state_storePort hr (by rw [hoff]; rfl), hoff]
    · have hon : ((s.storeAdmin p x.take).1.port p).state = .search := by
        rw [storeAdmin_enable s p x.take hold hnew]
        unfold State.enablePort
        rw [if_pos (show ((s.written p x.take).port p).state = .disabled from hst), port_enterSearch, if_pos rfl]
        rfl
      rw [← hu, state_storePort hr (by rw [hon]; rfl), hon]
    · have hkne : x.take.priority ≠ s.priorityOf p := fun h => hne ⟨hadm, h.symm⟩
      rw [← hu, storePort_inForce hr, if_neg hkne, storeAdmin_same s p x.take hadm.symm, show x.take.priority = 0 from hk]
      exact raised_evaluate (s := s.written p x.take) hst hm
  case refused =>
    intro a b c e rest hlen
    refine (answerSetPort_refused hlen s).imp_left fun h => ?_
    exact answers_of_handler (k := .setPort) (body := a :: b :: c :: e :: rest) rfl hs (by simp [hlen, Config.maxBody]) h

/-! ### Select Profile -/

/-- Exactly these ports are DISABLED. -/
def State.disabledExactly (s : State) (X : Port → Prop) : Prop := ∀ p, X p ↔ (s.port p).state = .disabled

theorem disabledExactly_of {s t : State} {X : Port → Prop} (h : ∀ q, t.port q = s.port q ∨ (t.port q).state ≠ .disabled ∧ (s.port q).state ≠ .disabled)
    (hs : s.disabledExactly X) : t.disabledExactly X := fun q => by
  rw [hs q]
  obtain h | ⟨ht, hs⟩ := h q
  · rw [h]
  · exact iff_of_false hs ht

/-- No evaluation moves a port into or out of DISABLED. -/
theorem disabledExactly_candidates (X : Port → Prop) : KeptByCandidates fun t => t.disabledExactly X where
  queued t e _ _ _ := disabledExactly_of fun q => by
    rw [port_grantQueued]
    split
    next h =>
      obtain ⟨rfl, hst⟩ := h
      exact .inr ⟨nofun, by rw [hst]; nofun⟩
    · exact .inl rfl
  reserved t e _ _ := disabledExactly_of fun q => by
    rw [port_grantReserved]
    split
    next h =>
      obtain ⟨rfl, hst, -⟩ := h
      exact .inr ⟨nofun, by rw [hst]; nofun⟩
    · exact .inl rfl
  passes _ _ h := h
  pop t _ h := by
    unfold State.popRecord
    split
    · exact h
    next r below _ =>
      refine disabledExactly_of (fun q => .inl (port_post _ _ q)) (foldl_keeps (P := fun t : State => t.disabledExactly X) (fun v e => ?_) r.entries _ h)
      refine disabledExactly_of fun q => ?_
      rw [port_restorePort]
      split
      next h =>
        obtain ⟨rfl, hst⟩ := h
        exact .inr ⟨nofun, by rw [hst]; nofun⟩
      · exact .inl rfl
  figures _ h := h
  shed t p _ _ hst := disabledExactly_of fun q => by
    rw [port_shedPort]
    split
    next h =>
      subst h
      refine .inr ⟨nofun, fun hd => ?_⟩
      rw [hd] at hst
      simp [PortState.committed] at hst
    · exact .inl rfl
  batch t k b _ h q := by
    rw [port_makeBatch]
    exact h q

theorem disabledExactly_applyPriority {s : State} {X : Port → Prop} (p : Port) (k : Priority) (hs : s.disabledExactly X) :
    (s.applyPriority p k).disabledExactly X := by
  by_cases h : (s.port p).state = .shed ∧ k = 0
  · obtain ⟨hst, rfl⟩ := h
    rw [applyPriority_raised hst]
    refine disabledExactly_of (fun q => ?_) hs
    rw [port_enterSearch]
    split
    next h =>
      subst h
      exact .inr ⟨nofun, by rw [hst]; nofun⟩
    · exact .inl rfl
  · rw [applyPriority_kept h]
    exact hs

/-- An admin difference leaves the other ports (R16, R17). -/
theorem port_applyAdmin_ne {s : State} {p q : Port} (hq : q ≠ p) (enabled : Bool) : (s.applyAdmin p enabled).1.port q = s.port q := by
  cases enabled with
  | false => exact port_disablePort_ne hq
  | true =>
    show (s.enablePort p).port q = s.port q
    unfold State.enablePort
    split
    · rw [port_enterSearch, if_neg hq]
    · rfl

/-- A port stands by an admin difference that has acted on it (R16, R17). -/
theorem disabled_applyAdmin (s : State) (p : Port) (enabled : Bool) :
    enabled = false ↔ ((s.applyAdmin p enabled).1.port p).state = .disabled := by
  cases enabled with
  | false =>
    obtain ⟨h, -⟩ := port_disablePort_self s p
    exact iff_of_true rfl h
  | true =>
    refine iff_of_false nofun ?_
    show ((s.enablePort p).port p).state ≠ .disabled
    unfold State.enablePort
    split
    · rw [port_enterSearch, if_pos rfl]
      nofun
    next h => exact h

/-- The admin pass makes each of its ports stand by its new admin setting, when it stood by its old one (R20). -/
theorem disabledExactly_adminPass {old new : Port → Bool} {l : List Port} (hl : l.Nodup) : ∀ s : State,
    s.disabledExactly (fun p => (if p ∈ l then old p else new p) = false) →
      (l.foldl (fun t p => if new p = old p then t else (t.applyAdmin p (new p)).1) s).disabledExactly fun p => new p = false := by
  induction l with
  | nil => exact fun s hs => by simpa using hs
  | cons p l ih =>
    intro s hs
    obtain ⟨hp, hl⟩ := List.nodup_cons.mp hl
    rw [List.foldl_cons]
    refine ih hl _ fun q => ?_
    have hsq : (if q ∈ p :: l then old q else new q) = false ↔ (s.port q).state = .disabled := hs q
    by_cases hq : q = p
    · subst hq
      rw [if_pos List.mem_cons_self] at hsq
      show (if q ∈ l then old q else new q) = false ↔ _
      rw [if_neg hp]
      split
      next h => rw [h, hsq]
      · exact disabled_applyAdmin s q (new q)
    · have hport : (if new p = old p then s else (s.applyAdmin p (new p)).1).port q = s.port q := by
        split
        · rfl
        · exact port_applyAdmin_ne hq _
      simpa [hq, hport] using hsq

/-- A profile change while RUNNING leaves every port standing by its new admin setting, when it stood by its old one (R20). -/
theorem disabledExactly_switchProfile {s : State} (hr : s.unit.unitState = .running) (i : Fin 2)
    (hs : s.disabledExactly fun p => (s.portSettings p).admin = false) :
    (s.switchProfile i).disabledExactly fun p => ((s.settings.profiles.get i).get p).admin = false := by
  rw [switchProfile_running hr]
  refine evaluate_keeps_candidates (disabledExactly_candidates _) _ _ ?_
  unfold State.switchPriorities
  refine foldl_keeps (P := fun t : State => t.disabledExactly fun p => ((s.settings.profiles.get i).get p).admin = false)
    (fun t p ht => ?_) _ _ ?_
  · split
    · exact ht
    · exact disabledExactly_applyPriority p _ ht
  · unfold State.switchAdmins
    refine disabledExactly_adminPass (old := fun p => (s.portSettings p).admin)
      (new := fun p => ((s.settings.profiles.get i).get p).admin) (show allPorts.Nodup from List.nodup_finRange 56) _ fun p => ?_
    have hmem : p ∈ allPorts := List.mem_finRange p
    dsimp only
    rw [if_pos hmem]
    exact hs p

theorem answerSelectProfile_index (s : State) (i : Fin 2) : answerSelectProfile [byteOf i.val] s = accept false (s.switchProfile i) := by
  unfold answerSelectProfile
  rw [if_neg (by simp), profileOfByte_byteOf]

theorem line_switchProfile (s : State) (i : Fin 2) : (s.switchProfile i).line = s.line := by
  obtain ⟨hline, -⟩ := sameSide_switchProfile s i
  exact hline

theorem queuePriced_switchProfile {s : State} (hr : s.unit.unitState = .running) (i : Fin 2) (hs : s.queuePriced) :
    (s.switchProfile i).queuePriced := by
  obtain ⟨-, h⟩ := pricedOn_standing.switchProfile s i ⟨heldQuiet_of_running hr, pricedOn_true.mpr hs⟩
  exact pricedOn_true.mp h

/-- Settles O19. -/
theorem selectProfileSwitchesTheProfile : Obligations.SelectProfileSwitchesTheProfile := by
  intro s i d hs hr old new w a b u
  have ha : a = s.switchAdmins i := by
    unfold a State.switchAdmins
    refine congrArg (fun f => List.foldl f w allPorts) (funext₂ fun v p => ?_)
    show _ = if (new.get p).admin = (old.get p).admin then v else (v.applyAdmin p (new.get p).admin).1
    cases (old.get p).admin <;> cases (new.get p).admin <;> rfl
  have hb : b = s.switchPriorities i := by
    unfold b State.switchPriorities
    rw [ha]
    exact congrArg (fun f => List.foldl f _ allPorts) (funext₂ fun v p => by simp only [eq_comm]; rfl)
  have hu : s.switchProfile i = u := by
    unfold u
    cases hus : s.unit.unitState with
    | held => exact switchProfile_held hus i
    | running => rw [switchProfile_running hus, hb]
  clear_value u
  subst hu
  have hans := answerSelectProfile_index s i
  have hset := settings_switchProfile s i
  have hline := line_switchProfile s i
  have hkept : ∀ t : State, (∃ l : Line, t = { s.switchProfile i with line := l }) → t.settings = { s.settings with inForce := i }
      ∧ (s.unit.unitState = .held → t.ports = s.ports ∧ t.ceilings = s.ceilings ∧ t.ledger = s.ledger
        ∧ t.stack = s.stack ∧ t.queue = s.queue ∧ t.supply = s.supply ∧ t.notices = s.notices)
      ∧ (s.unit.unitState = .running → t.figuresCurrent ∧ (s.queuePriced → t.queuePriced)
        ∧ ((∀ p, (s.portSettings p).admin = false ↔ (s.port p).state = .disabled) →
          ∀ p, ((s.settings.profiles.get i).get p).admin = false ↔ (t.port p).state = .disabled)) := by
    rintro t ⟨l, rfl⟩
    refine ⟨hset, fun hu => ?_, fun hrun => ⟨?_, queuePriced_switchProfile hrun i, disabledExactly_switchProfile hrun i⟩⟩
    · rw [switchProfile_held hu]
      exact ⟨rfl, rfl, rfl, rfl, rfl, rfl, rfl⟩
    · have hfig : (s.switchProfile i).figuresCurrent := by
        rw [switchProfile_running hrun]
        exact figuresCurrent_evaluate _ _
      exact hfig
  have hbad : ∀ b : Byte, 2 ≤ b.toNat → Answers (.selectProfile .own [b]) s .selectProfile .badIndex [] s := fun b hb =>
    answers_of_handler (k := .selectProfile) (body := [b]) rfl hs (by simp [Config.maxBody]) (answerSelectProfile_badIndex s hb)
  cases d with
  | own =>
    obtain ⟨hst, hheld, hrun⟩ := hkept ((s.switchProfile i).withReply 0x15 .done []) ⟨_, rfl⟩
    exact ⟨_, answers_of_handler (k := .selectProfile) (body := [byteOf i.val]) rfl hs (by simp [Config.maxBody]) hans, fun _ => rfl, nofun, hst,
      hheld, hrun, fun _ => ⟨rfl, rfl⟩, nofun, hbad⟩
  | broadcast =>
    obtain ⟨hst, hheld, hrun⟩ := hkept (s.switchProfile i).hunting ⟨_, rfl⟩
    exact ⟨_, exec_broadcast_of_handler (k := .selectProfile) (body := [byteOf i.val]) rfl rfl hs (by simp [Config.maxBody])
      (congrArg Answer.state hans) (by rw [accept_state, hline, hr]), nofun, fun _ => rfl, hst, hheld, hrun, nofun,
      fun _ => ⟨show (s.switchProfile i).line.reply = _ by rw [hline], rfl⟩, hbad⟩

end Sys2Proof.Machine
end

section
/-! PROOFS. The reads and Take Notices: the reports byte by byte, and what they clear (R12, R77, R104, R121, R139, R161, R163, R176). -/

namespace Sys2Proof.Machine

/-! ### Fields of the reports -/

theorem byteOf_twosComplement (v : Int) : byteOf (twosComplement 256 v) = BitVec.ofInt 8 v := by
  refine BitVec.eq_of_toNat_eq ?_
  simp only [byteOf, twosComplement, BitVec.toNat_ofNat, BitVec.toNat_ofInt]
  omega

theorem byteOf_toNat_self (b : Byte) : byteOf b.toNat = b := by
  simp [byteOf]

theorem byteOf_flagCode (b : Bool) : byteOf (flagCode b) = flagByte b := by
  cases b <;> rfl

theorem stateCode_eq (st : PortState) : stateCode st = portStates.idxOf st := by
  cases st <;> decide

theorem length_field16 (n : Nat) : (field16 n).length = 2 := rfl

theorem length_field24 (n : Nat) : (field24 n).length = 3 := rfl

/-- A part of a report with so many bytes for each of its records. -/
theorem length_flatMap_const {α : Type} {f : α → List Byte} {n : Nat} (hf : ∀ a, (f a).length = n) (l : List α) :
    (l.flatMap f).length = n * l.length := by
  rw [List.length_flatMap, List.map_congr_left fun a _ => hf a, List.map_const', List.sum_replicate, smul_eq_mul, Nat.mul_comm]

/-! ### Read Ledger, Read Queue and Read Stack -/

theorem portsIn_eq (s : State) (st : PortState) : s.portsIn st = allPorts.countP fun p => (s.port p).state == st := by
  unfold State.portsIn
  rw [ports_toList, List.countP_map]
  rfl

theorem ledgerContent_eq (s : State) : ledgerContent s = s.readLedgerBody := by
  have himposed : field24 (s.ledger.imposedCap.getD 0xFFFFFF)
      = match s.ledger.imposedCap with | none => [0xFF, 0xFF, 0xFF] | some cap => field24 cap := by
    cases s.ledger.imposedCap <;> rfl
  have hwindow : ∀ w : Option WindowIndex, orAbsent (w.map (·.val)) = match w with | none => 0xFF | some w => byteOf w.val := fun w => by
    cases w <;> rfl
  have hsupply : ∀ m : SupplyState, byteOf (supplyStateCode m)
      = match m with | .present => 0 | .gapRide => 1 | .gapExtended => 2 | .recovery => 3 := fun m => by
    cases m <;> rfl
  unfold ledgerContent State.readLedgerBody
  rw [himposed, hwindow, hwindow, byteOf_twosComplement, hsupply]
  simp only [portsIn_eq]
  rfl

theorem length_readLedgerBody (s : State) : s.readLedgerBody.length = 41 := by
  unfold State.readLedgerBody
  cases s.ledger.imposedCap <;> rfl

theorem entryBytes_eq (s : State) (e : QueueEntry) : entryBytes s e = s.readQueueEntry e := by
  unfold entryBytes State.readQueueEntry
  cases h : e.kind with
  | ordinary => rfl
  | marked => rfl
  | reserved => rfl

theorem length_readQueueEntry (s : State) (e : QueueEntry) : (s.readQueueEntry e).length = 7 := rfl

/-- A record as Read Stack reports it (R139). -/
theorem stackContent_record {s : State} {depth : Nat} {r : ShedRecord} (h : s.stack[depth - 1]? = some r) :
    stackContent s depth = [byteOf s.stack.length, byteOf depth] ++ r.readBody := by
  have hcause : byteOf (shedCauseCode r.cause) = match r.cause with
      | .window => 1 | .gapRide => 2 | .gapExtended => 3 | .derate => 4 | .imposed => 5 | .setting => 6 := by
    cases r.cause <;> rfl
  have hhold : holdRemaining r.hold = match r.hold with | .idle => 0 | .running n => max n 1 | .due => 1 := by
    cases r.hold <;> rfl
  unfold stackContent ShedRecord.readBody
  rw [h]
  dsimp only
  rw [hcause, hhold, byteOf_flagCode]
  rfl

theorem stackContent_none {s : State} {depth : Nat} (h : s.stack[depth - 1]? = none) :
    stackContent s depth = [byteOf s.stack.length, byteOf depth] := by
  unfold stackContent
  rw [h]
  exact List.append_nil _

theorem length_readBody (r : ShedRecord) : r.readBody.length = 8 + 3 * r.entries.length := by
  have hentries : (r.entries.flatMap fun e => byteOf (e.port.val + 1) :: field16 (e.allocation / 50)).length = 3 * r.entries.length :=
    length_flatMap_const (f := fun e : ShedEntry => byteOf (e.port.val + 1) :: field16 (e.allocation / 50)) (fun _ => rfl) _
  unfold ShedRecord.readBody
  simp only [List.length_append, length_field24, length_field16, hentries, List.length_cons, List.length_nil]

/-- Settles O24. -/
theorem readsReportAndChangeNothing : Obligations.ReadsReportAndChangeNothing := by
  intro s hs
  refine ⟨?ledger, ?length, fun b hb hb' => ?queue, fun b hb => ?badPosition, fun b hb hb' => ⟨fun r hr => ?record, fun hlen => ?noRecord⟩,
    fun b hb => ?badDepth⟩
  case ledger =>
    exact answers_of_handler (k := .readLedger) (body := []) rfl hs (Nat.zero_le _) (congrArg (report · s) (ledgerContent_eq s))
  case length => rw [length_readLedgerBody]
  case queue =>
    intro listed content
    have hcontent : queueContent s b.toNat = content := by
      unfold content queueContent
      dsimp only
      rw [inrushCount_eq, byteOf_toNat_self, funext (entryBytes_eq s)]
      rfl
    refine ⟨answers_of_handler (k := .readQueue) (body := [b]) rfl hs (by simp [Config.maxBody]) ?_, ?_, by simp [listed, min_comm]⟩
    · show answerReadQueue [b] s = _
      unfold answerReadQueue
      rw [if_neg (by simp), show byteAt [b] 0 = b.toNat from rfl, if_pos ⟨hb, hb'⟩, hcontent]
      rfl
    · rw [show content.length = 6 + (listed.flatMap s.readQueueEntry).length by
          rw [List.length_append]
          rfl,
        length_flatMap_const (length_readQueueEntry s)]
      omega
  case badPosition =>
    refine answers_of_handler (k := .readQueue) (body := [b]) rfl hs (by simp [Config.maxBody]) ?_
    show answerReadQueue [b] s = _
    unfold answerReadQueue
    rw [if_neg (by simp), show byteAt [b] 0 = b.toNat from rfl, if_neg (by omega)]
    rfl
  case record =>
    refine ⟨answers_of_handler (k := .readStack) (body := [b]) rfl hs (by simp [Config.maxBody]) ?_, ?_⟩
    · show answerReadStack [b] s = _
      unfold answerReadStack
      rw [if_neg (by simp), show byteAt [b] 0 = b.toNat from rfl, if_pos ⟨hb, hb'⟩, stackContent_record hr, byteOf_toNat_self]
      rfl
    · rw [List.length_append, length_readBody]
      simp only [List.length_cons, List.length_nil]
      omega
  case noRecord =>
    refine answers_of_handler (k := .readStack) (body := [b]) rfl hs (by simp [Config.maxBody]) ?_
    show answerReadStack [b] s = _
    unfold answerReadStack
    rw [if_neg (by simp), show byteAt [b] 0 = b.toNat from rfl, if_pos ⟨hb, hb'⟩,
      stackContent_none (List.getElem?_eq_none (by omega)), byteOf_toNat_self]
    rfl
  case badDepth =>
    refine answers_of_handler (k := .readStack) (body := [b]) rfl hs (by simp [Config.maxBody]) ?_
    show answerReadStack [b] s = _
    unfold answerReadStack
    rw [if_neg (by simp), show byteAt [b] 0 = b.toNat from rfl, if_neg (by omega)]
    rfl

/-! ### Identify, Read Port and Read Gap -/

/-- The two flag bytes, as the flags they name. -/
theorem flagOfByte_of {f : Byte} (h : f = 0 ∨ f = 1) : flagOfByte f.toNat = some (decide (f = 1)) := by
  obtain rfl | rfl := h <;> rfl

theorem flagOfByte_none {f : Byte} (h0 : f ≠ 0) (h1 : f ≠ 1) : flagOfByte f.toNat = none := by
  have hf : 2 ≤ f.toNat := by bv_omega
  exact flagOfByte_high hf []

theorem identifyContent_eq (s : State) : identifyContent s =
    [0xE8, 0x15, 1, byteOf (if s.unit.straps.addr = 0 then 31 else s.unit.straps.addr.val),
      if s.unit.straps.addr = 0 then 1 else 0, byteOf s.unit.straps.auto.val, if s.unit.straps.baud then 1 else 0,
      (match s.unit.unitState with | .held => 0 | .running => 1),
      (match s.unit.resetCause with | .power => 1 | .pin => 2 | .restart => 3),
      byteOf s.line.errorCount, byteOf (s.line.errorCount / 256)] := by
  have haddr : unitAddress s.unit.straps = if s.unit.straps.addr = 0 then 31 else s.unit.straps.addr.val := by
    unfold unitAddress
    simp only [Fin.ext_iff]
    rfl
  have hdefault : byteOf (flagCode (strapDefault s.unit.straps)) = if s.unit.straps.addr = 0 then 1 else 0 := by
    rw [byteOf_flagCode]
    unfold strapDefault flagByte
    simp only [beq_iff_eq, Fin.ext_iff]
    rfl
  have hstate : byteOf (unitStateCode s.unit.unitState) = match s.unit.unitState with | .held => 0 | .running => 1 := by
    cases s.unit.unitState <;> rfl
  have hcause : byteOf (resetCauseCode s.unit.resetCause) = match s.unit.resetCause with | .power => 1 | .pin => 2 | .restart => 3 := by
    cases s.unit.resetCause <;> rfl
  unfold identifyContent
  rw [haddr, hdefault, hstate, hcause, byteOf_flagCode]
  rfl

/-- The settings of one port in force, its link record and its own record as Read Port reports them (R12). -/
theorem portContent_eq (s : State) (p : Port) : portContent s p = s.readPortBody p := by
  have hphase : byteOf (phaseCode (s.port p).recyclePhase)
      = match (s.port p).recyclePhase with | none => 0 | some .offTime => 1 | some .waitSlot => 2 := by
    match (s.port p).recyclePhase with
    | none => rfl
    | some .offTime => rfl
    | some .waitSlot => rfl
  have hgrade : orAbsent ((s.port p).grade.map (·.val)) = match (s.port p).grade with | none => 0xFF | some g => byteOf g.val := by
    cases (s.port p).grade <;> rfl
  have hfault : byteOf (((s.port p).lastFault.map faultCode).getD 0) = match (s.port p).lastFault with
      | none => 0 | some .short => 1 | some .overload => 2 | some .inrushTimeout => 3 | some .gradeInvalid => 4 := by
    cases h : (s.port p).lastFault with
    | none => rfl
    | some c => cases c <;> rfl
  have hlockout : byteOf (((s.port p).lockoutCause.map lockoutCode).getD 0)
      = match (s.port p).lockoutCause with | none => 0 | some .faultLimit => 1 | some .recycleLimit => 2 := by
    cases h : (s.port p).lockoutCause with
    | none => rfl
    | some c => cases c <;> rfl
  have hlink : ∀ l : LinkState, orAbsent (some (linkCode l)) = match l with | .down => 0 | .up => 1 := fun l => by
    cases l <;> rfl
  unfold portContent State.readPortBody
  dsimp only
  simp only [byteOf_flagCode, stateCode_eq, hphase, hgrade, hfault, hlockout]
  by_cases h : 48 ≤ p.val
  · rw [show ceilingOf p = some ⟨p.val - 48, by omega⟩ from dif_pos h, dif_pos h, decide_eq_true h]
    simp only [Option.map_some, hlink]
    rfl
  · rw [show ceilingOf p = none from dif_neg h, dif_neg h, decide_eq_false h]
    rfl

theorem length_readPortBody (s : State) (p : Port) : (s.readPortBody p).length = 24 := by
  unfold State.readPortBody
  by_cases h : 48 ≤ p.val
  · rw [dif_pos h]
    rfl
  · rw [dif_neg h]
    rfl

theorem gapContent_eq (s : State) : gapContent s = (match s.supply.capture with
    | none => [0, 0, 0, 0, 0, 0, 0]
    | some g => [1, byteOf g.duration, byteOf (g.duration / 256), byteOf g.lowest, byteOf (g.lowest / 256),
      byteOf g.shed, if g.extended then 1 else 0]) ++ [byteOf s.supply.gapsSinceRead] := by
  unfold gapContent
  cases s.supply.capture with
  | none => rfl
  | some g =>
    dsimp only
    rw [byteOf_flagCode]
    rfl

/-- Settles O25. -/
theorem reportsAreMadeBeforeTheyClear : Obligations.ReportsAreMadeBeforeTheyClear := by
  refine ⟨fun s f hs => ⟨fun hf => ?_, fun h0 h1 => ?_⟩, fun s hs => ⟨fun p f hf => ⟨?_, ?_⟩, fun b f hb => ?_, fun p f h0 h1 => ?_⟩,
    fun s hs => ?_⟩
  · refine answers_of_handler (k := .identify) (body := [f]) rfl hs (by simp [Config.maxBody]) ?_
    show answerIdentify [f] s = _
    unfold answerIdentify
    rw [if_neg (by simp), show flagOfByte (byteAt [f] 0) = some (decide (f = 1)) from flagOfByte_of hf]
    dsimp only
    rw [identifyContent_eq]
    simp only [decide_eq_true_eq]
    rfl
  · refine answers_of_handler (k := .identify) (body := [f]) rfl hs (by simp [Config.maxBody]) ?_
    show answerIdentify [f] s = _
    unfold answerIdentify
    rw [if_neg (by simp), show flagOfByte (byteAt [f] 0) = none from flagOfByte_none h0 h1]
    rfl
  · refine answers_of_handler (k := .readPort) (body := [byteOf (portNumber p), f]) rfl hs (by simp [Config.maxBody]) ?_
    show answerReadPort [byteOf (portNumber p), f] s = _
    unfold answerReadPort
    rw [if_neg (by simp), show portOfByte (byteAt [byteOf (portNumber p), f] 0) = some p from portOfByte_portNumber p,
      show flagOfByte (byteAt [byteOf (portNumber p), f] 1) = some (decide (f = 1)) from flagOfByte_of hf]
    dsimp only
    rw [portContent_eq]
    simp only [decide_eq_true_eq]
    rfl
  · rw [length_readPortBody]
  · refine answers_of_handler (k := .readPort) (body := [b, f]) rfl hs (by simp [Config.maxBody]) ?_
    show answerReadPort [b, f] s = _
    unfold answerReadPort
    rw [if_neg (by simp), show portOfByte (byteAt [b, f] 0) = none from portOfByte_none hb]
    rfl
  · refine answers_of_handler (k := .readPort) (body := [byteOf (portNumber p), f]) rfl hs (by simp [Config.maxBody]) ?_
    show answerReadPort [byteOf (portNumber p), f] s = _
    unfold answerReadPort
    rw [if_neg (by simp), show portOfByte (byteAt [byteOf (portNumber p), f] 0) = some p from portOfByte_portNumber p,
      show flagOfByte (byteAt [byteOf (portNumber p), f] 1) = none from flagOfByte_none h0 h1]
    rfl
  · refine answers_of_handler (k := .readGap) (body := []) rfl hs (Nat.zero_le _) ?_
    exact congrArg (report · _) (gapContent_eq s)

/-! ### Take Notices -/

/-- A stamp's four bytes are its bits (section 11.4). -/
theorem field32_eq (w : BitVec 32) :
    field32 w = [w.extractLsb' 0 8, w.extractLsb' 8 8, w.extractLsb' 16 8, w.extractLsb' 24 8] := by
  simp [field32, BitVec.extractLsb', byteOf, Nat.shiftRight_eq_div_pow]

theorem twosComplement_eq (v : Int) : twosComplement 16777216 v = (BitVec.ofInt 24 v).toNat := by
  rw [BitVec.toNat_ofInt]
  rfl

/-- A notice's fields are those of its row in the tables of sections 9.7 and 11.4. -/
theorem fields_eq_row (b : NoticeBody) : b.fields = (b.row.1, b.row.2.2) := by
  cases b with
  | resetDone cause => cases cause <;> rfl
  | portFault p cause count => cases cause <;> rfl
  | portLockout p cause => cases cause <;> rfl
  | shed cause ports total =>
    show (5, 0, shedCauseCode cause + 256 * ports, total) = _
    rw [Nat.add_comm]
    cases cause <;> rfl
  | sensorOutOfRange v =>
    show (9, 0, 2, twosComplement 16777216 v) = _
    rw [twosComplement_eq]
    rfl
  | deviceGone p left released =>
    show (11, portNumber p, stateCode left, released / 50) = _
    rw [stateCode_eq]
    rfl
  | linkChange c st => cases st <;> rfl
  | recycled c count forced => cases forced <;> rfl
  | _ => rfl

theorem noticeBytes_eq (n : Notice) : noticeBytes n = n.record := by
  have hclass : ∀ b : Bool, 128 * flagCode b = if b then 128 else 0 := fun b => by
    cases b <;> rfl
  unfold noticeBytes Notice.record
  rw [fields_eq_row, urgent_eq_row, hclass, field32_eq]

theorem length_record (n : Notice) : n.record.length = 11 := rfl

/-- A removal takes URGENT before ROUTINE, each oldest first (R163). -/
theorem take_classes (q : NoticeQueue) (n : Nat) :
    q.urgent.take n ++ q.routine.take (n - q.urgent.length) = (q.urgent ++ q.routine).take n := List.take_append.symm

theorem drop_classes (q : NoticeQueue) (n : Nat) :
    q.urgent.drop n ++ q.routine.drop (n - q.urgent.length) = (q.urgent ++ q.routine).drop n := List.drop_append.symm

/-- Settles O26. -/
theorem takeNoticesRemovesUrgentFirst : Obligations.TakeNoticesRemovesUrgentFirst := by
  intro s b hs n removed left
  have hremoved : s.notices.urgent.take n ++ s.notices.routine.take (n - s.notices.urgent.length) = removed := take_classes _ n
  refine ⟨drop_classes _ n, ⟨_, answers_of_handler (k := .takeNotices) (body := [b]) rfl hs (by simp [Config.maxBody]) ?_, rfl, ?_⟩, ?_⟩
  · show answerTakeNotices [b] s = _
    have hremove : s.notices.remove n = (removed, left) := by
      unfold NoticeQueue.remove
      dsimp only
      rw [hremoved]
    unfold answerTakeNotices
    rw [if_neg (by simp)]
    dsimp only
    rw [show clamp 1 8 (byteAt [b] 0) = n from rfl, acceptedStatus_bne, hremove]
    unfold noticesContent
    rw [byteOf_flagCode, funext noticeBytes_eq]
    rfl
  · rw [List.length_append, length_flatMap_const length_record]
    simp only [List.length_cons, List.length_nil]
    omega
  · rw [attnLow_awake (show State.awake { s with notices := left } from hs.1)]
    simp [NoticeQueue.count, left]
    omega

end Sys2Proof.Machine
end

section
/-! PROOFS. The Supply Monitor's gaps and countdowns (R69 to R76), and the figures that an evaluation computes (R84 to R86). -/

namespace Sys2Proof.Machine

/-! ### The figures -/

/-- An evaluation leaves the inputs of its figures (R101). -/
theorem computeS_evaluate (s : State) (k : ShedCause) : (s.evaluate k).computeS = s.computeS := by
  have hset := settings_evaluate s k
  have hsup := supply_evaluate s k
  have hcap : (s.evaluate k).ledger.imposedCap = s.ledger.imposedCap := evaluate_keeps (imposedCap_evaluation s.ledger.imposedCap) s k rfl
  unfold State.computeS State.windowBudget State.gapCap
  rw [hsup, hset, hcap]

theorem computeD_evaluate (s : State) (k : ShedCause) : (s.evaluate k).computeD = s.computeD := by
  unfold State.computeD
  rw [supply_evaluate, settings_evaluate]

/-- A figure with its limits: one of them, and above none. -/
theorem limitBy_least (n : Nat) (a b : Option Nat) : limitBy (limitBy n a) b ∈ [n] ++ a.toList ++ b.toList
    ∧ ∀ x ∈ [n] ++ a.toList ++ b.toList, limitBy (limitBy n a) b ≤ x := by
  cases a <;> cases b <;> simp [limitBy] <;> omega

/-- Settles O45. -/
theorem evaluationComputesTheFigures : Obligations.EvaluationComputesTheFigures := by
  intro s k t g limits
  obtain ⟨hS, hD, hA⟩ := figuresCurrent_evaluate s k
  rw [computeS_evaluate] at hS
  rw [computeD_evaluate] at hD
  rw [computeS_evaluate, computeD_evaluate, settings_evaluate] at hA
  have hlimits : limits = [s.windowBudget] ++ s.gapCap.toList ++ s.ledger.imposedCap.toList := by
    have hwindow : [s.windowBudget] = [match s.supply.activeWindow with
        | none => 0
        | some w => if h : w.val = 0 then s.settings.defaultBudget else (s.settings.windows.get ⟨w.val - 1, by omega⟩).budget] := by
      unfold State.windowBudget
      cases s.supply.activeWindow <;> rfl
    rw [hwindow]
    unfold limits State.gapCap
    cases s.supply.state with
    | recovery =>
      match s.supply.recoveryCap with
      | none => rfl
      | some .ride => rfl
      | some .extended => rfl
    | _ => rfl
  obtain ⟨hmem, hle⟩ := limitBy_least s.windowBudget s.gapCap s.ledger.imposedCap
  rw [← hlimits] at hmem hle
  refine ⟨?_, fun x hx => ?_, hD, ?_⟩
  · rw [hS]
    exact hmem
  · rw [hS]
    exact hle x hx
  · rw [hA, hS, hD]
    unfold availableOf g
    omega

/-! ### Changes of the Supply Monitor beside a posting -/

/-- A posting and a change of the Supply Monitor are made in either order. -/
theorem updSupply_post (s : State) (b : NoticeBody) (f : SupplyMonitor → SupplyMonitor) :
    (s.post b).updSupply f = (s.updSupply f).post b := by
  unfold State.post State.updSupply State.unitClock
  dsimp only
  split
  · split <;> rfl
  · rfl

/-! ### Gaps -/

section
variable {s : State}

theorem takeLine_same {x : Bool} (h : x = s.supply.linePresent) : s.takeLine x = s.updSupply fun m => { m with lineRun := 0 } := if_pos h

theorem takeLine_counts {x : Bool} (h : x ≠ s.supply.linePresent) (hr : s.supply.lineRun < 2) :
    s.takeLine x = s.updSupply fun m => { m with lineRun := m.lineRun + 1 } := (if_neg h).trans (if_pos (Nat.succ_lt_succ hr))

/-- The third differing sample is accepted (R70). -/
theorem takeLine_accepts {x : Bool} (h : x ≠ s.supply.linePresent) (hr : s.supply.lineRun = 2) :
    s.takeLine x = (s.updSupply fun m => { m with linePresent := x, lineRun := 0 }).lineChanged x :=
  (if_neg h).trans (if_neg (by omega))

theorem lineChanged_loss (h : s.supply.state = .present ∨ s.supply.state = .recovery) : s.lineChanged false = s.beginGap := by
  unfold State.lineChanged
  obtain h | h := h <;> rw [h]

theorem lineChanged_return {cap : CapKind} (h : (s.supply.state = .gapRide ∧ cap = .ride) ∨ (s.supply.state = .gapExtended ∧ cap = .extended)) :
    s.lineChanged true = s.endGap cap := by
  unfold State.lineChanged
  obtain ⟨h, rfl⟩ | ⟨h, rfl⟩ := h <;> rw [h]

/-- A captured gap (R76). -/
theorem captureGap_eq (m : SupplyMonitor) (g : GapCapture) : m.captureGap g =
    { m with gapsSinceRead := min (m.gapsSinceRead + 1) 255, capture := some (m.capture.getD g), measurement := none } := by
  unfold SupplyMonitor.captureGap
  cases m.capture <;> rfl

/-- The Supply Monitor as the end of a gap leaves it, but for its state, its cap and the recovery countdown (R73, R76). -/
def SupplyMonitor.gapEnded (m : SupplyMonitor) (g : GapCapture) : SupplyMonitor :=
  { m with
    rideLimit := .idle, gapsSinceRead := min (m.gapsSinceRead + 1) 255, capture := some (m.capture.getD g), measurement := none }

theorem endGap_delayed (hd : s.settings.supply.recoveryDelay ≠ 0) (cap : CapKind) : s.endGap cap =
    ((s.updSupply fun m => { m.gapEnded s.completedGap with
      state := .recovery, recoveryCap := some cap, recovery := .running s.settings.supply.recoveryDelay }).post
      (.gapEnd s.completedGap.lowest s.completedGap.duration)).evaluate (returnCause cap) := by
  unfold State.endGap
  dsimp only
  rw [post_settings]
  refine (if_neg hd).trans ?_
  rw [updSupply_post]
  simp only [captureGap_eq]
  rfl

theorem endGap_atOnce (hd : s.settings.supply.recoveryDelay = 0) (cap : CapKind) : s.endGap cap =
    ((s.updSupply fun m => { m.gapEnded s.completedGap with state := .present, recoveryCap := none, recovery := .idle }).post
      (.gapEnd s.completedGap.lowest s.completedGap.duration)).evaluate .window := by
  unfold State.endGap State.endRecovery
  dsimp only
  rw [post_settings]
  refine (if_pos hd).trans ?_
  rw [updSupply_post]
  simp only [captureGap_eq]
  rfl

/-- The completed measurement of a gap in progress (R75). -/
theorem completedGap_some {g : GapMeasurement} (h : s.supply.measurement = some g) :
    s.completedGap = ⟨min (s.now - g.start) 65535, g.lowest.getD 0, g.shed, g.extended⟩ := by
  unfold State.completedGap
  rw [h]

end

/-- Settles O30. -/
theorem lineSampleBeginsAndEndsGaps : Obligations.LineSampleBeginsAndEndsGaps := by
  intro s x hs
  refine ⟨fun h => ?_, fun h hr => ?_, fun hp hr hst => ?_, fun g cap hp hr hg hst => ?_⟩
  · exact exec_next (taken_awake hs _) (takeLine_same h)
  · exact exec_next (taken_awake hs _) (takeLine_counts h hr)
  · refine exec_next (taken_awake hs _) ((takeLine_accepts (by rw [hp]; nofun) hr).trans ?_)
    rw [lineChanged_loss (by exact hst)]
    rfl
  · have haccept := takeLine_accepts (s := s) (x := true) (by rw [hp]; nofun) hr
    rw [lineChanged_return (s := s.updSupply fun m => { m with linePresent := true, lineRun := 0 }) (cap := cap) hst] at haccept
    have hgap := completedGap_some (s := s.updSupply fun m => { m with linePresent := true, lineRun := 0 }) (g := g) hg
    refine ⟨fun hd => ?_, fun hd => ?_⟩
    · refine exec_next (taken_awake hs _) (haccept.trans ?_)
      rw [endGap_delayed (by exact hd), hgap]
      cases cap <;> rfl
    · refine exec_next (taken_awake hs _) (haccept.trans ?_)
      rw [endGap_atOnce (by exact hd), hgap]
      rfl

/-! ### The countdowns -/

section
variable {s : State}

theorem expireRideLimit_running (h : s.supply.rideLimit ≠ .due) : s.expireRideLimit = s := if_neg (mt (expired_iff _).mp h)

theorem expireRideLimit_gap {g : GapMeasurement} (h : s.supply.rideLimit = .due) (hst : s.supply.state = .gapRide)
    (hg : s.supply.measurement = some g) : s.expireRideLimit =
      State.evaluate (({ s with supply :=
        { s.supply with
          rideLimit := .idle, state := .gapExtended, measurement := some { g with extended := true } } } : State).post
        (.rideLimit (s.now - g.start))) .gapExtended := by
  refine (if_pos ((expired_iff _).mpr h)).trans ((if_pos hst).trans ?_)
  have hupd : ((s.updSupply fun m => { m with rideLimit := .idle }).updSupply fun m =>
      { m with state := .gapExtended, measurement := m.measurement.map fun g => { g with extended := true } })
      = { s with supply :=
        { s.supply with rideLimit := .idle, state := .gapExtended, measurement := some { g with extended := true } } } := by
    simp only [State.updSupply, hg, Option.map_some]
  rw [hupd]
  rfl

theorem expireRecovery_running (h : s.supply.recovery ≠ .due) : s.expireRecovery = s := if_neg (mt (expired_iff _).mp h)

theorem expireRecovery_recovery (h : s.supply.recovery = .due) (hst : s.supply.state = .recovery) : s.expireRecovery = s.endRecovery :=
  (if_pos ((expired_iff _).mpr h)).trans (if_pos hst)

theorem expireSettle_candidate {w : WindowIndex} (hc : s.supply.candidate = some w) (h : s.supply.settle = .due) :
    s.expireSettle = (s.switchWindow w false).evaluate .window := by
  unfold State.expireSettle
  rw [hc, (expired_iff _).mpr h]

theorem expireSettle_running (h : s.supply.candidate = none ∨ s.supply.settle ≠ .due) : s.expireSettle = s := by
  unfold State.expireSettle
  split
  next hd hc =>
    rw [hc, (expired_iff _).mp hd] at h
    simp at h
  · rfl

end

/-- Settles O31. -/
theorem supplyCountdownsExpire : Obligations.SupplyCountdownsExpire := by
  intro s hs
  refine ⟨fun g h hst hg => ?_, fun h => exec_next (taken_awake hs _) (expireRideLimit_running h), fun h hst => ?_,
    fun h => exec_next (taken_awake hs _) (expireRecovery_running h), fun w hc h => ?_,
    fun h => exec_next (taken_awake hs _) (expireSettle_running h)⟩
  · have heq := expireRideLimit_gap h hst hg
    refine ⟨_, exec_next (taken_awake hs _) heq, rfl, ?_, figuresCurrent_evaluate _ _, heq ▸ sameHost_expireRideLimit s⟩
    rw [supply_evaluate, post_supply]
  · have heq := expireRecovery_recovery h hst
    refine ⟨_, exec_next (taken_awake hs _) heq, rfl, ?_, figuresCurrent_evaluate _ _, heq ▸ sameHost_expireRecovery s⟩
    unfold State.disturbed State.endRecovery
    rw [supply_evaluate]
    rfl
  · have heq := expireSettle_candidate hc h
    have hsup : ((s.switchWindow w false).evaluate .window).supply = { s.supply with
        activeWindow := some w, candidate := none, settle := .idle
        measurement := ((s.switchWindow w false).evaluate .window).supply.measurement } := by
      rw [supply_evaluate]
      unfold State.switchWindow
      rw [post_supply]
      rfl
    refine ⟨_, exec_next (taken_awake hs _) heq, rfl, ?_, ?_, ?_, figuresCurrent_evaluate _ _, heq ▸ sameHost_expireSettle s⟩ <;> rw [hsup]

end Sys2Proof.Machine
end

section
/-! PROOFS. The port sequence before power: the changes of one record, and the detection, grade, presence and countdown events (R23 to R28, R35). -/

namespace Sys2Proof.Machine

/-! ### Changes of one record -/

section
variable (s : State) (p : Port)

theorem updPort_eq (f : PortRecord → PortRecord) : s.updPort p f = { s with ports := s.ports.set p.val (f (s.port p)) p.isLt } := rfl

theorem updPort_congr {f g : PortRecord → PortRecord} (h : f (s.port p) = g (s.port p)) : s.updPort p f = s.updPort p g := by
  rw [updPort_eq, updPort_eq, h]

/-- Two changes of one record are one change. -/
theorem updPort_updPort (f g : PortRecord → PortRecord) : (s.updPort p f).updPort p g = s.updPort p fun r => g (f r) := by
  rw [updPort_eq, port_updPort_self, updPort_eq, updPort_eq]
  dsimp only
  rw [Vector.set_set]

theorem updPort_same {f : PortRecord → PortRecord} (h : f (s.port p) = s.port p) : s.updPort p f = s := by
  rw [updPort_eq, h]
  have hset : s.ports.set p.val (s.port p) p.isLt = s.ports := Vector.set_getElem_self p.isLt
  rw [hset]

/-- A posting and a change of a record are made in either order. -/
theorem updPort_post (b : NoticeBody) (f : PortRecord → PortRecord) : (s.post b).updPort p f = (s.updPort p f).post b := by
  unfold State.post State.updPort State.unitClock
  dsimp only
  split
  · split <;> rfl
  · rfl

end

/-! ### A change of one port, and the run that follows -/

section
variable {s u : State} {p : Port}

theorem settledPortsKept_of_other (h : s.otherPortsKept p u) : s.settledPortsKept p u := fun q hq _ => h q hq

theorem settledPortsKept_arbiterRun (h : s.otherPortsKept p u) : s.settledPortsKept p u.arbiterRun := fun q hq hm =>
  (port_arbiterRun u q (by rw [h q hq]; exact hm)).trans (h q hq)

theorem settledPortsKept_restoreRun (h : s.otherPortsKept p u) : s.settledPortsKept p u.restoreRun := fun q hq hm =>
  (port_restoreRun u q (by rw [h q hq]; exact hm)).trans (h q hq)

/-- A notice is stamped by the timebase and joins the queue as it stands. -/
theorem notices_post_congr (hn : u.notices = s.notices) (hnow : u.now = s.now) (b : NoticeBody) :
    (u.post b).notices = (s.post b).notices := by
  rw [notices_post, notices_post, hn]
  unfold State.unitClock
  rw [hnow]

end

/-! ### Detection results -/

section
variable {s : State} {p : Port}

/-- What a detection result other than VALID leaves of the record (R24). -/
def PortRecord.undetected (short : Bool) (r : PortRecord) : PortRecord :=
  { r with operation := .none, shortSeen := short, mark := none }

theorem loseMark_eq (s : State) (p : Port) :
    s.loseMark p = if (s.port p).mark.isSome = true then (s.dropMark p).restoreRun else s.dropMark p := by
  unfold State.loseMark
  split
  · rfl
  next hm =>
    refine (updPort_same s p ?_).symm
    rw [Option.not_isSome_iff_eq_none] at hm
    rw [← hm]

/-- The record with its operation over and its flag written, as it loses its mark (R24, R94). -/
theorem loseMark_undetected (s : State) (p : Port) (short : Bool) :
    ((s.updPort p fun r => { r with operation := .none }).updPort p fun r => { r with shortSeen := short }).loseMark p =
      if (s.port p).mark.isSome = true then (s.updPort p (PortRecord.undetected short)).restoreRun
      else s.updPort p (PortRecord.undetected short) := by
  rw [loseMark_eq, updPort_updPort, port_updPort_self]
  unfold State.dropMark
  rw [updPort_updPort]
  rfl

theorem takeDetection_valid (hst : (s.port p).state = .search) (hop : (s.port p).operation = .probe) :
    s.takeDetection p .valid = s.updPort p fun r =>
      { r with
        state := .classify, recyclePhase := none, lockoutCause := none, shortSeen := false, operation := .grade
        countdown := .running 50 } := by
  refine (if_pos ⟨hst, hop⟩).trans ?_
  unfold State.enterClassify
  rw [updPort_updPort, updPort_updPort]
  rfl

/-- The state before the restore run of a lost mark: the notice of a first short is posted (R24). -/
def State.undetected (s : State) (p : Port) (d : Detection) : State :=
  let v := s.updPort p (PortRecord.undetected (decide (d = .short)))
  if d = .short ∧ (s.port p).shortSeen = false then v.post (.portShortSeen p) else v

theorem port_undetected (s : State) (p q : Port) (d : Detection) :
    (s.undetected p d).port q = if q = p then (s.port p).undetected (decide (d = .short)) else s.port q := by
  unfold State.undetected
  dsimp only
  split
  · rw [port_post, port_updPort]
  · rw [port_updPort]

theorem takeDetection_invalid (hst : (s.port p).state = .search) (hop : (s.port p).operation = .probe) {d : Detection}
    (hd : d ≠ .valid) :
    s.takeDetection p d = if (s.port p).mark.isSome = true then (s.undetected p d).restoreRun else s.undetected p d := by
  refine (if_pos ⟨hst, hop⟩).trans ?_
  cases d with
  | valid => exact absurd rfl hd
  | opened | invalid => exact loseMark_undetected s p false
  | short =>
    have hlose := loseMark_undetected (s.post (.portShortSeen p)) p true
    simp only [port_post, updPort_post] at hlose
    cases hseen : (s.port p).shortSeen with
    | true =>
      have hposts : s.undetected p .short = s.updPort p (PortRecord.undetected true) := if_neg (by simp [hseen])
      rw [hposts]
      exact loseMark_undetected s p true
    | false =>
      have hposts : s.undetected p .short = (s.updPort p (PortRecord.undetected true)).post (.portShortSeen p) := if_pos ⟨rfl, hseen⟩
      rw [hposts, ← hlose]
      exact congrArg (fun u : State => (u.updPort p fun r => { r with shortSeen := true }).loseMark p) (if_neg Bool.false_ne_true)
        |>.trans (congrArg (·.loseMark p) (updPort_post _ _ _ _))

theorem takeDetection_other (h : (s.port p).state ≠ .search ∨ (s.port p).operation ≠ .probe) (d : Detection) :
    s.takeDetection p d = s := if_neg fun ⟨hst, hop⟩ => h.elim (· hst) (· hop)

end

/-- Settles O33: the record is changed once, and the run of a lost mark finds the port in SEARCH. -/
theorem detectionResultInSearch : Obligations.DetectionResultInSearch := by
  intro s p hs
  refine ⟨fun hst hop => ⟨exec_next (taken_awake hs _) (takeDetection_valid hst hop), fun d hd => ?_⟩,
    fun h d => exec_next (taken_awake hs _) (takeDetection_other h d)⟩
  have heq := takeDetection_invalid hst hop hd
  have hother : s.otherPortsKept p (s.undetected p d) := fun q hq => (port_undetected s p q d).trans (if_neg hq)
  have hself : (s.undetected p d).port p = (s.port p).undetected (decide (d = .short)) := (port_undetected s p p d).trans (if_pos rfl)
  have hquiet : (s.undetected p d).supply = s.supply ∧ (s.undetected p d).ceilings = s.ceilings := by
    unfold State.undetected
    dsimp only
    split <;> simp
  have hhost : s.sameHost (s.takeDetection p d) := sameHost_takeDetection p d s
  have hmove : ((s.undetected p d).port p).state.movable = false := by
    rw [hself]
    show (s.port p).state.movable = false
    rw [hst]
    rfl
  refine ⟨s.takeDetection p d, taken_awake hs _, heq, ?_, ?_, hhost, ?_⟩
  all_goals rw [heq]; split
  · exact (port_restoreRun _ p hmove).trans hself
  · exact hself
  · exact settledPortsKept_restoreRun hother
  · exact settledPortsKept_of_other hother
  · exact ⟨(supply_restoreRun _).trans hquiet.1, (ceilings_restoreRun _).trans hquiet.2⟩
  · exact hquiet

/-! ### The state countdowns that touch their port alone -/

section
variable {s : State} {p : Port}

theorem not_expires {a : PortState} (h : (s.port p).state ≠ a ∨ (s.port p).countdown ≠ .due) :
    ¬ ((s.port p).state = a ∧ (s.port p).countdown.expired = true) := fun ⟨hst, hc⟩ =>
  h.elim (· hst) (· ((expired_iff _).mp hc))

end

/-- Settles O34: each expiry is one guarded change of the port's record. -/
theorem stateCountdownsExpireByState : Obligations.StateCountdownsExpireByState := by
  intro s p hs probing
  refine ⟨fun hdue => ?_, fun h => exec_next (taken_awake hs _) (if_neg (not_expires h)), fun h => exec_next (taken_awake hs _) (if_neg (not_expires h)),
    fun h => exec_next (taken_awake hs _) (if_neg (not_expires h)), fun h => exec_next (taken_awake hs _) (if_neg (not_expires h))⟩
  have hexpired := (expired_iff _).mpr hdue
  exact ⟨fun hst => exec_next (taken_awake hs _) (if_pos ⟨hst, hexpired⟩), fun hst => exec_next (taken_awake hs _) (if_pos ⟨hst, hexpired⟩),
    fun hst => exec_next (taken_awake hs _) (if_pos ⟨hst, hexpired⟩),
    fun hst hlow => exec_next (taken_awake hs _) ((if_pos ⟨hst, hexpired⟩).trans (if_neg (Nat.not_le_of_lt hlow))),
    fun hst hlimit => exec_next (taken_awake hs _) ((if_pos ⟨hst, hexpired⟩).trans (if_pos hlimit))⟩

/-! ### Grade results -/

section
variable {s : State} {p : Port}

theorem joinQueue_of_none (h : s.entryOf p = none) (k : EntryKind) :
    s.joinQueue p k = { s with queue := placeEntry ⟨p, s.priorityOf p, k, s.queue.length + 1, 0⟩ s.queue } := if_neg (by simp [h])

theorem entryOf_congr {s t : State} (h : t.queue = s.queue) (p : Port) : t.entryOf p = s.entryOf p := by
  unfold State.entryOf
  rw [h]

/-- The record as a grade of 0 to 6 takes it to QUEUED (R26, R28). -/
def PortRecord.graded (g : Fin 7) (r : PortRecord) : PortRecord :=
  { r with state := .queued, recyclePhase := none, lockoutCause := none, operation := .none, countdown := .idle, grade := some g }

/-- The kind of entry that a port's mark asks for (R28). -/
def PortRecord.joinKind (r : PortRecord) : EntryKind := if r.mark.isSome then .marked else .ordinary

/-- A port graded and in the queue, before the join's arbiter run. -/
def State.gradedJoin (s : State) (p : Port) (g : Fin 7) : State :=
  { s.updPort p (PortRecord.graded g) with queue := placeEntry ⟨p, s.priorityOf p, (s.port p).joinKind, s.queue.length + 1, 0⟩ s.queue }

theorem enterQueued_graded (h : s.entryOf p = none) (g : Fin 7) :
    (s.updPort p fun r => { r with grade := some g }).enterQueued p = s.gradedJoin p g := by
  unfold State.enterQueued
  dsimp only
  rw [updPort_updPort, port_updPort_self]
  exact joinQueue_of_none (s := s.updPort p _) ((entryOf_congr rfl p).trans h) _

/-- The state that DEVICE_FOUND leaves (R26). -/
def State.found (s : State) (p : Port) (g : Fin 7) : State := if (s.port p).mark.isSome then s else s.post (.deviceFound p g)

theorem found_keeps (s : State) (p : Port) (g : Fin 7) :
    (s.found p g).queue = s.queue ∧ (s.found p g).settings = s.settings ∧ (s.found p g).supply = s.supply
      ∧ (s.found p g).ceilings = s.ceilings ∧ ∀ q, (s.found p g).port q = s.port q := by
  unfold State.found
  split <;> simp

theorem acceptGrade_eq (h : s.entryOf p = none) (g : Fin 7) : s.acceptGrade p g = ((s.found p g).gradedJoin p g).arbiterRun := by
  obtain ⟨hq, -, -, -, -⟩ := found_keeps s p g
  rw [← enterQueued_graded ((entryOf_congr hq p).trans h)]
  unfold State.acceptGrade State.found
  dsimp only
  rw [port_updPort_self]
  split
  · rfl
  · rw [updPort_post]

/-- A graded port in the queue stays there or is granted (R26, R115). -/
theorem graded_kept (p : Port) (g : Fin 7) :
    KeptByRuns fun t => (t.port p).grade = some g ∧ ((t.port p).state = .queued ∨ (t.port p).state = .inrush) where
  queued t e _ _ _ h := by
    rw [port_grantQueued]
    split
    next hp =>
      obtain ⟨rfl, -⟩ := hp
      exact ⟨h.1, .inr rfl⟩
    · exact h
  reserved t e _ _ h := by
    rw [port_grantReserved]
    split
    next hp =>
      obtain ⟨rfl, -⟩ := hp
      exact ⟨h.1, .inr rfl⟩
    · exact h
  passes t l h := by rw [port_raisePassCounts]; exact h
  pop t _ h := by
    unfold State.popRecord
    split
    · exact h
    next r below _ =>
      rw [port_post]
      refine foldl_keeps (P := fun u : State => (u.port p).grade = some g ∧ ((u.port p).state = .queued ∨ (u.port p).state = .inrush))
        ?_ r.entries _ h
      intro u e hu
      rw [port_restorePort, if_neg]
      · exact hu
      · rintro ⟨rfl, hst⟩
        simp [hst] at hu

/-- The record as a grade of 7 takes it to FAULT_HOLD (R26, R34). -/
def PortRecord.misgraded (holdoff : Nat) (r : PortRecord) : PortRecord :=
  { r with
    state := .faultHold, recyclePhase := none, lockoutCause := none, operation := .none, switch := .off, grade := none
    mark := none, faultCount := min (r.faultCount + 1) 15, lastFault := some .gradeInvalid
    countdown := .running (1000 * holdoff) }

/-- A misgraded port and its notice, before the restore run of a lost mark. -/
def State.misgraded (s : State) (p : Port) : State :=
  (s.updPort p (PortRecord.misgraded s.settings.timing.faultHoldoff)).post
    (.portFault p .gradeInvalid (min ((s.port p).faultCount + 1) 15))

theorem rejectGrade_eq (s : State) (p : Port) :
    s.rejectGrade p = if (s.port p).mark.isSome = true then (s.misgraded p).restoreRun else s.misgraded p := by
  have hhold : (s.updPort p fun r => { r with grade := none, mark := none }).enterFaultHold p .gradeInvalid = s.misgraded p := by
    unfold State.enterFaultHold State.misgraded
    dsimp only
    rw [updPort_updPort, port_updPort_self]
    rfl
  unfold State.rejectGrade
  dsimp only
  rw [hhold]

theorem port_misgraded (s : State) (p q : Port) :
    (s.misgraded p).port q = if q = p then (s.port p).misgraded s.settings.timing.faultHoldoff else s.port q :=
  (port_post _ _ q).trans (port_updPort s p q _)

theorem takeGrade_accepts (hst : (s.port p).state = .classify) (hop : (s.port p).operation = .grade) {g : Fin 8} (h : g.val < 7) :
    s.takeGrade p g = s.acceptGrade p ⟨g.val, h⟩ := (if_pos ⟨hst, hop⟩).trans (dif_pos h)

theorem takeGrade_rejects (hst : (s.port p).state = .classify) (hop : (s.port p).operation = .grade) {g : Fin 8} (h : g.val = 7) :
    s.takeGrade p g = s.rejectGrade p := (if_pos ⟨hst, hop⟩).trans (dif_neg (by omega))

theorem takeGrade_other (h : (s.port p).state ≠ .classify ∨ (s.port p).operation ≠ .grade) (g : Fin 8) : s.takeGrade p g = s :=
  if_neg fun ⟨hst, hop⟩ => h.elim (· hst) (· hop)

end

/-- Settles O35: a graded port is QUEUED, which runs keep or raise to INRUSH, and a misgraded one is in FAULT_HOLD, which no run moves. -/
theorem gradeResultJoinsTheQueue : Obligations.GradeResultJoinsTheQueue := by
  intro s p g hs
  have hhost := sameHost_takeGrade p g s
  refine ⟨fun hst hop => ⟨fun hlow hnone => ?accepted, fun hseven => ?rejected⟩, fun h => exec_next (taken_awake hs _) (takeGrade_other h g)⟩
  case accepted =>
    obtain ⟨hqueue, hset, hsupply, hceilings, hports⟩ := found_keeps s p ⟨g.val, hlow⟩
    have heq := (takeGrade_accepts hst hop hlow).trans (acceptGrade_eq hnone ⟨g.val, hlow⟩)
    have hother : s.otherPortsKept p ((s.found p ⟨g.val, hlow⟩).gradedJoin p ⟨g.val, hlow⟩) := fun q hq =>
      (port_updPort_ne _ _ hq).trans (hports q)
    have hself : ((s.found p ⟨g.val, hlow⟩).gradedJoin p ⟨g.val, hlow⟩).port p = (s.port p).graded ⟨g.val, hlow⟩ := by
      rw [← hports p]
      exact port_updPort_self _ _ _
    have hjoin : (s.found p ⟨g.val, hlow⟩).gradedJoin p ⟨g.val, hlow⟩ = { (s.found p ⟨g.val, hlow⟩).updPort p (PortRecord.graded ⟨g.val, hlow⟩) with
        queue := placeEntry ⟨p, s.priorityOf p, (s.port p).joinKind, s.queue.length + 1, 0⟩ s.queue } := by
      unfold State.gradedJoin
      rw [hqueue, hports, priorityOf_congr hset]
    obtain ⟨hgrade, hstate⟩ := arbiterRun_keeps (graded_kept p ⟨g.val, hlow⟩) ((s.found p ⟨g.val, hlow⟩).gradedJoin p ⟨g.val, hlow⟩)
      (by rw [hself]; exact ⟨rfl, .inl rfl⟩)
    rw [← heq] at hgrade hstate
    refine ⟨s.takeGrade p g, taken_awake hs _, heq.trans (congrArg State.arbiterRun hjoin), hgrade, hstate, ?_, hhost, ?_, ?_⟩
    all_goals rw [heq]
    · exact settledPortsKept_arbiterRun hother
    · exact (supply_arbiterRun _).trans hsupply
    · exact (ceilings_arbiterRun _).trans hceilings
  case rejected =>
    have heq := (takeGrade_rejects hst hop hseven).trans (rejectGrade_eq s p)
    have hother : s.otherPortsKept p (s.misgraded p) := fun q hq => (port_misgraded s p q).trans (if_neg hq)
    have hself : (s.misgraded p).port p = (s.port p).misgraded s.settings.timing.faultHoldoff := (port_misgraded s p p).trans (if_pos rfl)
    have hmove : ((s.misgraded p).port p).state.movable = false := by rw [hself]; rfl
    have hquiet : (s.misgraded p).supply = s.supply ∧ (s.misgraded p).ceilings = s.ceilings := by simp [State.misgraded]
    refine ⟨s.takeGrade p g, taken_awake hs _, ?_, ?_, hhost, ?_, ?_, fun hm => ?_⟩
    all_goals rw [heq]
    · split
      · exact (port_restoreRun _ p hmove).trans hself
      · exact hself
    · split
      · exact settledPortsKept_restoreRun hother
      · exact settledPortsKept_of_other hother
    · split
      · exact (supply_restoreRun _).trans hquiet.1
      · exact hquiet.1
    · split
      · exact (ceilings_restoreRun _).trans hquiet.2
      · exact hquiet.2
    · rw [hm, if_neg (by simp)]
      exact ⟨hother, notices_post_congr (s := s) (u := s.updPort p _) rfl rfl _⟩

/-! ### Presence lost -/

section
variable {s : State} {p : Port}

/-- A port that holds no entry is given none by a run (R105, R109). -/
theorem absent_kept (p : Port) : KeptByRuns fun t => p ∉ t.queue.map (·.port) where
  queued t e _ _ _ h := by
    rw [queue_grantQueued, ports_leaveQueue]
    exact fun hp => h (List.mem_filter.mp hp).1
  reserved t e _ _ h := by
    rw [queue_grantReserved, ports_leaveQueue]
    exact fun hp => h (List.mem_filter.mp hp).1
  passes t l h := by
    have hports : (t.raisePassCounts l).queue.map (·.port) = t.queue.map (·.port) := by
      unfold State.raisePassCounts
      rw [List.map_map]
      exact List.map_congr_left fun e _ => by
        show (if e.port ∈ l then _ else e : QueueEntry).port = e.port
        split <;> rfl
    rw [hports]
    exact h
  pop t _ h := by
    unfold State.popRecord
    split
    · exact h
    next r below _ =>
      rw [post_queue]
      refine foldl_keeps (P := fun u : State => p ∉ u.queue.map (·.port)) ?_ r.entries { t with stack := below } h
      intro u e hu
      unfold State.restorePort
      split <;> simpa using hu

/-- The record as its port returns to SEARCH (R23). -/
def PortRecord.searching (interval : Nat) (r : PortRecord) : PortRecord :=
  { r with
    state := .search, recyclePhase := none, lockoutCause := none, switch := .off, operation := .probe, countdown := .running interval }

/-- The record as its port loses its power (R33, R49). -/
def PortRecord.unpowered (r : PortRecord) : PortRecord :=
  { r with
    switch := .off, currentLimit := none, allocation := none, capped := false, supervision := .unsupervised, tolerance := .idle
    excursion := none }

theorem enterSearch_eq (s : State) (p : Port) :
    s.enterSearch p = s.updPort p (PortRecord.searching s.settings.timing.detectionInterval) := rfl

/-- A port gone from QUEUED, before the arbiter run (R28). -/
def State.goneQueued (s : State) (p : Port) : State :=
  ((s.leaveQueue p).updPort p (PortRecord.searching s.settings.timing.detectionInterval)).post (.deviceGone p .queued 0)

/-- A port gone from INRUSH or ON, before the restore run (R30, R32). -/
def State.gonePowered (s : State) (p : Port) : State :=
  ((s.release p).enterSearch p).post (.deviceGone p (s.port p).state (s.allocationOf p))

theorem port_goneQueued (s : State) (p q : Port) :
    (s.goneQueued p).port q = if q = p then (s.port p).searching s.settings.timing.detectionInterval else s.port q :=
  (port_post _ _ q).trans (port_left s p q _)

/-- A release and then one change of the released record. -/
theorem port_release_updPort (s : State) (p q : Port) (f : PortRecord → PortRecord) :
    ((s.release p).updPort p f).port q = if q = p then f (s.port p).unpowered else s.port q := by
  rw [port_released, port_release, if_pos rfl]
  rfl

theorem port_gonePowered (s : State) (p q : Port) :
    (s.gonePowered p).port q = if q = p then (s.port p).unpowered.searching s.settings.timing.detectionInterval else s.port q := by
  unfold State.gonePowered
  rw [port_post, enterSearch_eq, port_release_updPort, release_settings]

theorem losePresence_queued (h : (s.port p).state = .queued) : s.losePresence p = (s.goneQueued p).arbiterRun := by
  unfold State.losePresence
  rw [h]
  unfold State.goneQueued
  rw [← leaveQueue_settings s p]
  rfl

theorem losePresence_powered (h : (s.port p).state = .inrush ∨ (s.port p).state = .on) :
    s.losePresence p = (s.gonePowered p).restoreRun := by
  unfold State.losePresence State.gonePowered
  rcases h with h | h <;> rw [h] <;> rfl

theorem losePresence_other (hq : (s.port p).state ≠ .queued) (hi : (s.port p).state ≠ .inrush) (ho : (s.port p).state ≠ .on) :
    s.losePresence p = s := by
  unfold State.losePresence
  split
  case h_1 h => exact absurd h hq
  case h_2 h => exact absurd h hi
  case h_3 h => exact absurd h ho
  case h_4 => rfl

/-- A release takes its port off the commit list (R33). -/
theorem not_mem_release (s : State) (p : Port) : p ∉ (s.release p).ledger.commitList := by
  simp [commitList_release]

/-- No run puts a settled port on the commit list. -/
theorem not_mem_restoreRun (hm : (s.port p).state.movable = false) (h : p ∉ s.ledger.commitList) : p ∉ s.restoreRun.ledger.commitList := fun hp =>
  h ((restoreRun_keeps (commit_kept s p hm) s ⟨rfl, Iff.rfl⟩).2.mp hp)

end

/-- Settles O36: a lost port is in SEARCH, which no run moves. -/
theorem presenceLostReturnsToSearch : Obligations.PresenceLostReturnsToSearch := by
  intro s p hs
  have hhost := sameHost_losePresence p s
  refine ⟨fun hst => ?queued, fun hst => ?powered, fun hq hi ho => exec_next (taken_awake hs _) (losePresence_other hq hi ho)⟩
  case queued =>
    have heq := losePresence_queued hst
    have hself := (port_goneQueued s p p).trans (if_pos rfl)
    have hrun := (port_arbiterRun (s.goneQueued p) p (by rw [hself]; rfl)).trans hself
    refine ⟨s.losePresence p, taken_awake hs _, heq, ?_, ?_, ?_, ?_, hhost⟩
    all_goals rw [heq]
    · exact congrArg PortRecord.state hrun
    · exact (congrArg PortRecord.mark hrun :)
    · refine arbiterRun_keeps (absent_kept p) _ ?_
      unfold State.goneQueued
      rw [post_queue, updPort_queue, ports_leaveQueue]
      simp
    · exact settledPortsKept_arbiterRun fun q hq => (port_goneQueued s p q).trans (if_neg hq)
  case powered =>
    have heq := losePresence_powered hst
    have hself := (port_gonePowered s p p).trans (if_pos rfl)
    have hmove : ((s.gonePowered p).port p).state.movable = false := by rw [hself]; rfl
    refine ⟨s.losePresence p, taken_awake hs _, ?_, ?_, heq, ?_, hhost, ?_⟩
    all_goals rw [heq]
    · exact (port_restoreRun _ p hmove).trans hself
    · refine not_mem_restoreRun hmove ?_
      unfold State.gonePowered
      rw [post_ledger, enterSearch_ledger]
      exact not_mem_release s p
    · exact settledPortsKept_restoreRun fun q hq => (port_gonePowered s p q).trans (if_neg hq)
    · exact (supply_restoreRun _).trans (by simp [State.gonePowered])

end Sys2Proof.Machine
end

section
/-! PROOFS. The powered port: the ramp, the faults, overcurrent supervision and the radio recovery of the CEILING ports (R30 to R34, R49 to R54, R142 to R149). -/

namespace Sys2Proof.Machine

/-! ### The link record of a port -/

theorem ceilingPort_injective : Function.Injective ceilingPort := fun a b h => Fin.ext (by
  have hval := congrArg Fin.val h
  dsimp only [ceilingPort] at hval
  omega)

/-- Change the link record of the ceiling port that a port is, and none for a SEAT port. -/
def State.updLink (s : State) (p : Port) (f : CeilingRecord → CeilingRecord) : State :=
  match ceilingOf p with
  | some c => s.updCeiling c f
  | none => s

theorem ceiling_updLink (s : State) (p : Port) (f : CeilingRecord → CeilingRecord) (c : Ceiling) :
    (s.updLink p f).ceiling c = if ceilingPort c = p then f (s.ceiling c) else s.ceiling c := by
  unfold State.updLink
  split
  next d hd =>
    rw [ceilingOf_eq_some] at hd
    subst hd
    rw [ceiling_updCeiling]
    by_cases hc : c = d
    · rw [if_pos hc, if_pos (congrArg ceilingPort hc), hc]
    · rw [if_neg hc, if_neg fun h => hc (ceilingPort_injective h)]
  next hnone =>
    refine (if_neg fun h => ?_).symm
    rw [ceilingOf_eq_some.mpr h] at hnone
    cases hnone

/-- The link record as supervision of the port ends (R143). -/
def CeilingRecord.unsupervised (r : CeilingRecord) : CeilingRecord :=
  { r with active := false, linkCountdown := .idle, stableCountdown := .idle }

theorem ceiling_endSupervision (s : State) (p : Port) (c : Ceiling) :
    (s.endSupervision p).ceiling c = if ceilingPort c = p then (s.ceiling c).unsupervised else s.ceiling c :=
  ceiling_updLink (s.updPort p _) p _ c

theorem ceiling_release (s : State) (p : Port) (c : Ceiling) :
    (s.release p).ceiling c = if ceilingPort c = p then (s.ceiling c).unsupervised else s.ceiling c :=
  ceiling_endSupervision (s.updPort p _) p c

/-- Two changes of one link record are one change. -/
theorem updCeiling_updCeiling (s : State) (c : Ceiling) (f g : CeilingRecord → CeilingRecord) :
    (s.updCeiling c f).updCeiling c g = s.updCeiling c fun r => g (f r) := by
  have hget : (s.updCeiling c f).ceilings.get c = f (s.ceilings.get c) := ceiling_updCeiling_self s c f
  unfold State.updCeiling at hget ⊢
  dsimp only at hget ⊢
  rw [hget, Vector.set_set]

theorem updCeiling_congr (s : State) (c : Ceiling) {f g : CeilingRecord → CeilingRecord} (h : f (s.ceiling c) = g (s.ceiling c)) :
    s.updCeiling c f = s.updCeiling c g := by
  unfold State.updCeiling
  exact congrArg (fun r => { s with ceilings := s.ceilings.set c.val r c.isLt }) h

/-! ### The ramp -/

section
variable {s : State} {p : Port}

/-- The record as its port enters ON (R32, R49). -/
def PortRecord.powered (forgiveness : Nat) (r : PortRecord) : PortRecord :=
  { r with
    state := .on, recyclePhase := none, lockoutCause := none, operation := .none, switch := .on
    countdown := .running (1000 * forgiveness), supervision := .watching, tolerance := .idle, excursion := none }

/-- The link record as link supervision begins (R143). -/
def CeilingRecord.supervised (t : Timing) (r : CeilingRecord) : CeilingRecord :=
  match r.linkState with
  | .down => { r with active := true, linkCountdown := .running (1000 * t.recycleWait) }
  | .up => { r with active := true, stableCountdown := .running (1000 * t.linkStableTime) }

theorem enterOn_eq (s : State) (p : Port) :
    s.enterOn p = (s.updPort p (PortRecord.powered s.settings.timing.forgivenessTime)).updLink p
      (CeilingRecord.supervised s.settings.timing) := rfl

theorem ceiling_enterOn (s : State) (p : Port) (c : Ceiling) :
    (s.enterOn p).ceiling c = if ceilingPort c = p then (s.ceiling c).supervised s.settings.timing else s.ceiling c := by
  rw [enterOn_eq, ceiling_updLink, ceiling_updPort]

theorem updLink_eq (s : State) (p : Port) (f : CeilingRecord → CeilingRecord) :
    s.updLink p f = if h : 48 ≤ p.val then s.updCeiling ⟨p.val - 48, by omega⟩ f else s := by
  unfold State.updLink ceilingOf
  by_cases h : 48 ≤ p.val
  · rw [dif_pos h, dif_pos h]
  · rw [dif_neg h, dif_neg h]

end

/-- Settles O37: the port in ON is one no run moves. -/
theorem rampCompleteEntersOn : Obligations.RampCompleteEntersOn := by
  intro s p hs supervised entered u
  have hu : s.enterOn p = u := (enterOn_eq s p).trans (updLink_eq _ p _)
  clear_value u
  subst hu
  refine ⟨fun hst => ?_, fun hst => exec_next (taken_awake hs _) (if_neg hst)⟩
  have hramp : s.completeRamp p = (s.enterOn p).arbiterRun := if_pos hst
  have hself : (s.enterOn p).port p = entered.port p :=
    (port_enterOn s p p).trans ((if_pos rfl).trans (port_updPort_self s p (PortRecord.powered _)).symm)
  have hon : (entered.port p).state = .on := congrArg PortRecord.state (port_updPort_self s p (PortRecord.powered _))
  refine ⟨s.completeRamp p, taken_awake hs _, hramp, ?_, fun c => ?_, ?_, sameHost_completeRamp p s, ?_⟩
  all_goals rw [hramp]
  · refine (port_arbiterRun _ p ?_).trans hself
    rw [hself, hon]
    rfl
  · exact (ceiling_congr (ceilings_arbiterRun _) c).trans (ceiling_enterOn s p c)
  · exact settledPortsKept_arbiterRun fun q hq => (port_enterOn s p q).trans (if_neg hq)
  · exact (supply_arbiterRun _).trans (by simp)

/-! ### Faults of a powered port -/

section
variable {s : State} {p : Port}

/-- A released port in its fault hold, before the restore run (R33, R34). -/
def State.faulted (s : State) (p : Port) (cause : FaultCause) : State := (s.release p).enterFaultHold p cause

theorem port_faulted (s : State) (p q : Port) (cause : FaultCause) :
    (s.faulted p cause).port q =
      if q = p then (s.port p).unpowered.holdFault cause s.settings.timing.faultHoldoff else s.port q := by
  unfold State.faulted
  rw [port_enterFaultHold, port_release, if_pos rfl, release_settings]
  split
  · rfl
  next hq => rw [port_release, if_neg hq]

theorem notices_faulted (s : State) (p : Port) (cause : FaultCause) :
    (s.faulted p cause).notices = (s.post (.portFault p cause (min ((s.port p).faultCount + 1) 15))).notices := by
  unfold State.faulted State.enterFaultHold
  dsimp only
  rw [port_updPort_self, port_release, if_pos rfl]
  exact notices_post_congr (by simp) (by simp) _

theorem faulted_keeps (s : State) (p : Port) (cause : FaultCause) :
    (s.faulted p cause).stack = s.stack ∧ (s.faulted p cause).queue = s.queue ∧ (s.faulted p cause).supply = s.supply
      ∧ (s.faulted p cause).ledger.commitList = s.ledger.commitList.filter (· != p) := by
  simp [State.faulted, State.enterFaultHold, commitList_release]

theorem ceiling_faulted (s : State) (p : Port) (cause : FaultCause) (c : Ceiling) :
    (s.faulted p cause).ceiling c = if ceilingPort c = p then (s.ceiling c).unsupervised else s.ceiling c :=
  (ceiling_post _ _ c).trans ((ceiling_updPort _ _ _ c).trans (ceiling_release s p c))

theorem takeShort_powered (h : (s.port p).state = .inrush ∨ (s.port p).state = .on) : s.takeShort p = s.faultPowered p .short := by
  unfold State.takeShort
  rcases h with h | h <;> rw [h]

theorem takeShort_other (hi : (s.port p).state ≠ .inrush) (ho : (s.port p).state ≠ .on) : s.takeShort p = s := by
  unfold State.takeShort
  split
  case h_1 h => exact absurd h hi
  case h_2 h => exact absurd h ho
  case h_3 => rfl

end

/-- Settles O38: the three faults end in one release and fault hold, and a port in FAULT_HOLD is one no run moves. -/
theorem poweredFaultsEnterFaultHold : Obligations.PoweredFaultsEnterFaultHold := by
  intro s p hs
  refine ⟨fun c cause hcases => ?fault, fun hi ho => exec_next (taken_awake hs _) (takeShort_other hi ho),
    fun h => exec_next (taken_awake hs _) (if_neg (not_expires h)),
    fun h => exec_next (taken_awake hs _) (if_neg fun ⟨hst, hsup⟩ => h.elim (· hst) (· hsup))⟩
  have hexec : exec c s = .next (s.faultPowered p cause) := by
    rcases hcases with ⟨rfl, rfl, hst⟩ | ⟨rfl, rfl, hst, hdue⟩ | ⟨rfl, rfl, hst, hsup⟩
    · exact exec_next (taken_awake hs _) (takeShort_powered hst)
    · exact exec_next (taken_awake hs _) (if_pos ⟨hst, (expired_iff _).mpr hdue⟩)
    · exact exec_next (taken_awake hs _) (if_pos ⟨hst, hsup⟩)
  have hself := (port_faulted s p p cause).trans (if_pos rfl)
  have hmove : ((s.faulted p cause).port p).state.movable = false := by rw [hself]; rfl
  have hother : s.otherPortsKept p (s.faulted p cause) := fun q hq => (port_faulted s p q cause).trans (if_neg hq)
  obtain ⟨hstack, hqueue, hsupply, hcommit⟩ := faulted_keeps s p cause
  have hgone : p ∉ (s.faulted p cause).ledger.commitList := by simp [hcommit]
  exact ⟨_, s.faulted p cause, hexec, rfl, (port_restoreRun _ p hmove).trans hself, notices_faulted s p cause, hother, hstack, hqueue,
    fun d => (ceiling_congr (ceilings_restoreRun _) d).trans (ceiling_faulted s p cause d), hcommit,
    not_mem_restoreRun hmove hgone, settledPortsKept_restoreRun hother, sameHost_faultPowered p cause s,
    (supply_restoreRun _).trans hsupply⟩

/-! ### Excursions -/

section
variable {s : State} {p : Port}

/-- The record as an excursion of this duration ends, with the count it leaves (R51, R54). -/
def PortRecord.excursionEnded (duration count : Nat) (r : PortRecord) : PortRecord :=
  { r with
    supervision := .watching, tolerance := .idle, excursion := none, peakExcursion := peakAfter r.peakExcursion duration
    excursionCount := count }

/-- The record with its tolerance over and its peak raised, before the count (R51). -/
def PortRecord.peaked (duration : Nat) (r : PortRecord) : PortRecord :=
  { r with tolerance := .idle, peakExcursion := peakAfter r.peakExcursion duration }

/-- The count an excursion raises its port's to (R54). -/
def PortRecord.raisedCount (r : PortRecord) : Nat := min (r.excursionCount + 1) 255

/-- The end of an excursion, by what the count makes of the state with its peak raised (R51). -/
theorem endExcursion_of_counted (hst : (s.port p).state = .on) (hsup : (s.port p).supervision = .timing) {u : State}
    (hu : (if (s.updPort p (PortRecord.peaked (s.excursionLength p))).disturbed then s.updPort p (PortRecord.peaked (s.excursionLength p))
      else (s.updPort p (PortRecord.peaked (s.excursionLength p))).countExcursion p) = u) :
    s.endExcursion p = u.updPort p fun r => { r with supervision := .watching, excursion := none } :=
  (if_pos ⟨hst, hsup⟩).trans (congrArg (fun v : State => v.updPort p fun r => { r with supervision := .watching, excursion := none }) hu)

/-- With the supply disturbed an excursion is not counted (R56). -/
theorem endExcursion_disturbed (hst : (s.port p).state = .on) (hsup : (s.port p).supervision = .timing)
    (hp : s.supply.state ≠ .present) :
    s.endExcursion p = s.updPort p (PortRecord.excursionEnded (s.excursionLength p) (s.port p).excursionCount) := by
  rw [endExcursion_of_counted hst hsup (if_pos (by simp [State.disturbed, hp])), updPort_updPort]
  exact updPort_congr s p rfl

/-- A count at the threshold is reported and becomes 0 (R54). -/
theorem endExcursion_reports (hst : (s.port p).state = .on) (hsup : (s.port p).supervision = .timing)
    (hp : s.supply.state = .present) (ht : s.settings.timing.excursionThreshold ≤ (s.port p).raisedCount) :
    s.endExcursion p =
      (s.post (.excursions p (s.port p).raisedCount (peakAfter (s.port p).peakExcursion (s.excursionLength p)))).updPort p
        (PortRecord.excursionEnded (s.excursionLength p) 0) := by
  have hcount : (s.updPort p (PortRecord.peaked (s.excursionLength p))).countExcursion p = ((s.updPort p (PortRecord.peaked (s.excursionLength p))).post
      (.excursions p (s.port p).raisedCount (peakAfter (s.port p).peakExcursion (s.excursionLength p)))).updPort p fun r =>
        { r with excursionCount := 0 } := by
    unfold State.countExcursion
    rw [port_updPort_self]
    exact if_pos ht
  rw [endExcursion_of_counted hst hsup ((if_neg (by simp [State.disturbed, hp])).trans hcount), ← updPort_post, updPort_updPort, updPort_updPort]
  rfl

/-- A count below the threshold is kept (R54). -/
theorem endExcursion_counts (hst : (s.port p).state = .on) (hsup : (s.port p).supervision = .timing)
    (hp : s.supply.state = .present) (ht : ¬ s.settings.timing.excursionThreshold ≤ (s.port p).raisedCount) :
    s.endExcursion p = s.updPort p (PortRecord.excursionEnded (s.excursionLength p) (s.port p).raisedCount) := by
  have hcount : (s.updPort p (PortRecord.peaked (s.excursionLength p))).countExcursion p =
      (s.updPort p (PortRecord.peaked (s.excursionLength p))).updPort p fun r => { r with excursionCount := (s.port p).raisedCount } := by
    unfold State.countExcursion
    rw [port_updPort_self]
    exact if_neg ht
  rw [endExcursion_of_counted hst hsup ((if_neg (by simp [State.disturbed, hp])).trans hcount), updPort_updPort, updPort_updPort]
  rfl

/-- The state that a counted excursion's notice leaves (R54). -/
def State.excursionPosted (s : State) (p : Port) : State :=
  if s.supply.state = .present ∧ s.settings.timing.excursionThreshold ≤ (s.port p).raisedCount then
    s.post (.excursions p (s.port p).raisedCount (peakAfter (s.port p).peakExcursion (s.excursionLength p)))
  else s

/-- The count that the end of an excursion leaves (R54, R56). -/
def State.countLeft (s : State) (p : Port) : Nat :=
  if s.supply.state ≠ .present then (s.port p).excursionCount
  else if s.settings.timing.excursionThreshold ≤ (s.port p).raisedCount then 0 else (s.port p).raisedCount

theorem endExcursion_eq (hst : (s.port p).state = .on) (hsup : (s.port p).supervision = .timing) :
    s.endExcursion p = (s.excursionPosted p).updPort p (PortRecord.excursionEnded (s.excursionLength p) (s.countLeft p)) := by
  unfold State.excursionPosted State.countLeft
  by_cases hp : s.supply.state = .present
  · rw [if_neg (not_not_intro hp)]
    by_cases ht : s.settings.timing.excursionThreshold ≤ (s.port p).raisedCount
    · rw [if_pos ht, if_pos (And.intro hp ht), endExcursion_reports hst hsup hp ht]
    · rw [if_neg ht, if_neg fun h : _ ∧ _ => ht h.2, endExcursion_counts hst hsup hp ht]
  · rw [if_pos hp, if_neg fun h : _ ∧ _ => hp h.1, endExcursion_disturbed hst hsup hp]

theorem port_excursionPosted (s : State) (p q : Port) : (s.excursionPosted p).port q = s.port q := by
  unfold State.excursionPosted
  split
  · exact port_post _ _ q
  · rfl

end

/-- Settles O39: each event is one guarded change of the record. -/
theorem overcurrentIsTimedAndCounted : Obligations.OvercurrentIsTimedAndCounted := by
  intro s p hs
  refine ⟨fun hst hsup => exec_next (taken_awake hs _) (if_pos ⟨hst, hsup⟩), fun h => exec_next (taken_awake hs _) (if_neg fun k => h k.2),
    fun x hst hsup hx => ?ended, fun h => exec_next (taken_awake hs _) (if_neg fun k => h k.2),
    fun hsup hdue => exec_next (taken_awake hs _) (if_pos ⟨hsup, (expired_iff _).mpr hdue⟩),
    fun h => exec_next (taken_awake hs _) (if_neg fun ⟨hsup, hdue⟩ => h.elim (· hsup) (· ((expired_iff _).mp hdue)))⟩
  intro d peak raised
  have hlength : s.excursionLength p = d := by
    unfold State.excursionLength
    rw [hx]
  have heq := endExcursion_eq hst hsup
  refine ⟨s.endExcursion p, taken_awake hs _, ?_, ?_, fun q hq => ?_, sameHost_endExcursion p s, ?_⟩
  all_goals rw [heq]
  · rw [port_updPort_self, port_excursionPosted, hlength]
    rfl
  · rw [updPort_notices]
    unfold State.excursionPosted
    rw [hlength]
    rfl
  · exact (port_updPort_ne _ _ hq).trans (port_excursionPosted s p q)
  · unfold State.excursionPosted
    split <;> simp

/-! ### Link samples -/

/-- Settles O40: a sample is one change of the link record, with LINK_CHANGE for an accepted one. -/
theorem linkSamplesAreFiltered : Obligations.LinkSamplesAreFiltered := by
  intro s c level hs seen sampled
  have hseen : levelState level = seen := by cases level <;> rfl
  refine ⟨fun heq => ?same, fun hne hrun => ?counts, fun hne hrun => ?accepts,
    fun ha hdue => exec_next (taken_awake hs _) (if_pos ⟨ha, (expired_iff _).mpr hdue⟩),
    fun h => exec_next (taken_awake hs _) (if_neg fun ⟨ha, hdue⟩ => h.elim (fun hi => by simp [hi] at ha) (· ((expired_iff _).mp hdue)))⟩
  all_goals refine exec_next (taken_awake hs _) ?_; unfold State.senseLink; dsimp only; rw [hseen]
  case same => rw [if_pos heq, updCeiling_updCeiling]
  case counts =>
    rw [if_neg hne, if_pos (Nat.succ_lt_succ hrun), updCeiling_updCeiling]
    exact updCeiling_congr s c rfl
  case accepts =>
    rw [if_neg hne, if_neg (by omega), updCeiling_updCeiling]
    refine congrArg (State.post · _) (updCeiling_congr s c ?_)
    unfold CeilingRecord.acceptLink
    dsimp only
    split
    · cases seen <;> rfl
    · rfl

/-! ### The recycle of a radio -/

section
variable {s : State} {c : Ceiling}

/-- The state in which an expired link countdown is acted on. -/
def State.linkSpent (s : State) (c : Ceiling) : State := s.updCeiling c fun r => { r with linkCountdown := .idle }

theorem expireLink_recycles (ha : (s.ceiling c).active = true) (hdue : (s.ceiling c).linkCountdown = .due)
    (hst : (s.port (ceilingPort c)).state = .on) (hr : (s.ceiling c).recycleCount < s.settings.timing.recycleLimit) :
    s.expireLink c = (s.linkSpent c).recycleAutomatically c :=
  (if_pos ⟨ha, (expired_iff _).mpr hdue⟩).trans ((if_pos hst).trans (if_neg (by
    rw [ceiling_updCeiling_self]
    exact Nat.not_le_of_lt hr)))

theorem expireLink_locksOut (ha : (s.ceiling c).active = true) (hdue : (s.ceiling c).linkCountdown = .due)
    (hst : (s.port (ceilingPort c)).state = .on) (hr : s.settings.timing.recycleLimit ≤ (s.ceiling c).recycleCount) :
    s.expireLink c = (s.linkSpent c).lockOutRadio c :=
  (if_pos ⟨ha, (expired_iff _).mpr hdue⟩).trans ((if_pos hst).trans (if_pos (by
    rw [ceiling_updCeiling_self]
    exact hr)))

/-- The radio's port in RECYCLE, with its count raised and its notice (R145, R147). -/
def State.recycled (s : State) (c : Ceiling) : State :=
  ((s.updCeiling c fun r => { r with linkCountdown := .idle, recycleCount := r.recycleCount + 1 }).enterRecycle (ceilingPort c)).post
    (.recycled c ((s.ceiling c).recycleCount + 1) false)

theorem port_recycled (s : State) (c : Ceiling) (q : Port) :
    (s.recycled c).port q =
      if q = ceilingPort c then
        { (s.port (ceilingPort c)).enter .recycle with
          switch := .off, recyclePhase := some .offTime, countdown := loadSeconds s.settings.timing.recycleOffTime
          supervision := .unsupervised, tolerance := .idle, excursion := none }
      else s.port q := by
  unfold State.recycled
  rw [port_post, port_enterRecycle]
  rfl

theorem ceiling_recycled (s : State) (c d : Ceiling) :
    (s.recycled c).ceiling d =
      if d = c then { (s.ceiling c).unsupervised with recycleCount := (s.ceiling c).recycleCount + 1 } else s.ceiling d := by
  unfold State.recycled
  rw [ceiling_post, ceiling_enterRecycle, ceiling_updCeiling_self]
  split
  · rfl
  next hd => exact ceiling_updCeiling_ne s _ hd

theorem recycleAutomatically_eq (s : State) (c : Ceiling) : (s.linkSpent c).recycleAutomatically c = s.recycled c := by
  unfold State.recycleAutomatically State.linkSpent
  dsimp only
  rw [updCeiling_updCeiling, ceiling_enterRecycle, if_pos rfl, ceiling_updCeiling_self]
  rfl

/-- The radio's port released to LOCKOUT, before the restore run (R145, R33). -/
def State.radioLockedOut (s : State) (c : Ceiling) : State :=
  ((s.linkSpent c).release (ceilingPort c)).enterLockout (ceilingPort c) .recycleLimit

theorem port_radioLockedOut (s : State) (c : Ceiling) (q : Port) :
    (s.radioLockedOut c).port q =
      if q = ceilingPort c then
        { (s.port (ceilingPort c)).unpowered.enter .lockout with switch := .off, lockoutCause := some .recycleLimit }
      else s.port q := by
  unfold State.radioLockedOut
  rw [port_enterLockout, port_release, if_pos rfl]
  split
  · rfl
  next hq => rw [port_release, if_neg hq]; rfl

theorem ceiling_radioLockedOut (s : State) (c d : Ceiling) :
    (s.radioLockedOut c).ceiling d = if d = c then (s.ceiling c).unsupervised else s.ceiling d := by
  have hrelease : (s.radioLockedOut c).ceiling d = ((s.linkSpent c).release (ceilingPort c)).ceiling d :=
    (ceiling_post _ _ d).trans (ceiling_updPort _ _ _ d)
  rw [hrelease, ceiling_release]
  unfold State.linkSpent
  by_cases hd : d = c
  · rw [hd, if_pos rfl, if_pos rfl, ceiling_updCeiling_self]
    rfl
  · rw [if_neg hd, ceiling_updCeiling_ne _ _ hd, if_neg fun h => hd (ceilingPort_injective h)]

theorem radioLockedOut_keeps (s : State) (c : Ceiling) :
    (s.radioLockedOut c).stack = s.stack ∧ (s.radioLockedOut c).queue = s.queue ∧ (s.radioLockedOut c).supply = s.supply
      ∧ (s.radioLockedOut c).ledger.commitList = s.ledger.commitList.filter (· != ceilingPort c) := by
  simp [State.radioLockedOut, State.enterLockout, State.linkSpent, commitList_release]

theorem expireLink_other (h : (s.ceiling c).active = false ∨ (s.ceiling c).linkCountdown ≠ .due) : s.expireLink c = s :=
  if_neg fun ⟨ha, hdue⟩ => h.elim (fun hi => by simp [hi] at ha) (· ((expired_iff _).mp hdue))

end

/-- Settles O41: the expired countdown is spent, then the radio is recycled or its port released to LOCKOUT, which no run moves. -/
theorem linkExpiryRecyclesOrLocksOut : Obligations.LinkExpiryRecyclesOrLocksOut := by
  intro s c hs p
  have hhost := sameHost_expireLink c s
  refine ⟨fun ha hdue hst => ⟨fun hr => ?recycles, fun hr => ?locksOut⟩, fun h => exec_next (taken_awake hs _) (expireLink_other h)⟩
  case recycles =>
    have heq := (expireLink_recycles ha hdue hst hr).trans (recycleAutomatically_eq s c)
    refine ⟨s.expireLink c, taken_awake hs _, ?_, ?_, fun q hq => ?_, fun d hd => ?_, hhost, ?_⟩
    all_goals rw [heq]
    · exact (port_recycled s c p).trans (if_pos rfl)
    · exact (ceiling_recycled s c c).trans (if_pos rfl)
    · exact (port_recycled s c q).trans (if_neg hq)
    · exact (ceiling_recycled s c d).trans (if_neg hd)
    · refine ⟨?_, ?_, ?_, ?_, notices_post_congr ?_ ?_ _⟩ <;> simp [State.recycled, State.enterRecycle]
  case locksOut =>
    have heq : s.expireLink c = (s.radioLockedOut c).restoreRun := expireLink_locksOut ha hdue hst hr
    have hself := (port_radioLockedOut s c p).trans (if_pos rfl)
    have hmove : ((s.radioLockedOut c).port p).state.movable = false := by rw [hself]; rfl
    have hother : s.otherPortsKept p (s.radioLockedOut c) := fun q hq => (port_radioLockedOut s c q).trans (if_neg hq)
    have hceiling := fun d => (ceiling_congr (ceilings_restoreRun _) d).trans (ceiling_radioLockedOut s c d)
    obtain ⟨hstack, hqueue, hsupply, hcommit⟩ := radioLockedOut_keeps s c
    refine ⟨s.expireLink c, s.radioLockedOut c, taken_awake hs _, heq, ?_, ?_, notices_post_congr (by simp [State.linkSpent]) (by simp [State.linkSpent]) _,
      ?_, hother, hstack, hqueue, hcommit, ?_, fun d hd => ?_, hhost, ?_⟩
    all_goals rw [heq]
    · exact (port_restoreRun _ p hmove).trans hself
    · exact (hceiling c).trans (if_pos rfl)
    · exact not_mem_restoreRun hmove (by rw [hcommit]; simp [p])
    · exact settledPortsKept_restoreRun hother
    · exact (hceiling d).trans (if_neg hd)
    · exact (supply_restoreRun _).trans hsupply

/-! ### The slot a radio waits for -/

section
variable {s : State} {p : Port} {e : QueueEntry}

/-- With every slot in use an arbiter run does nothing (R114). -/
theorem walk_full (h : s.settings.timing.inrushSlots ≤ s.inrushCount) (q : List QueueEntry) (level : Option Priority) (passed : List Port)
    (granted : Bool) : walk q level passed granted s = (s, granted) := by
  cases q with
  | nil => rfl
  | cons e rest => exact if_pos h

theorem arbiterRun_full (h : s.settings.timing.inrushSlots ≤ s.inrushCount) : s.arbiterRun = s := by
  unfold State.arbiterRun arbiterRuns
  rw [walk_full h]
  rfl

/-- Ahead of entries that are not RESERVED, a RESERVED entry takes the head (R107). -/
theorem placeEntry_reserved (he : e.kind = .reserved) {q : List QueueEntry} (hq : ∀ x ∈ q, x.kind ≠ .reserved) : placeEntry e q = e :: q := by
  cases q with
  | nil => rfl
  | cons x xs =>
    have hx := hq x List.mem_cons_self
    refine if_pos ?_
    unfold QueueEntry.ahead
    rw [he]
    cases hk : x.kind with
    | reserved => exact absurd hk hx
    | marked | ordinary => rfl

/-- An arbiter run that finds a slot free and a RESERVED entry at the head makes that grant first (R115). -/
theorem arbiterRun_reserved {P : State → Prop} (h : KeptByRuns P) {rest : List QueueEntry} (hq : s.queue = e :: rest) (he : e.kind = .reserved)
    (hslot : s.inrushCount < s.settings.timing.inrushSlots) (hP : P (s.grantReserved e.port)) : P s.arbiterRun := by
  have hwalk := walk_keeps h.toKeptByGrants rest none [] false _ hP
  unfold State.arbiterRun arbiterRuns
  dsimp only
  rw [hq, walk_reserved he hslot]
  split
  · exact arbiterRuns_keeps h _ _ (restoreTest_keeps h _ hwalk)
  · exact hwalk

/-- A port in RECYCLE keeps its allocation and its capped flag through its grant (R149). -/
theorem radio_kept (p : Port) (a : Option Nat) (b : Bool) :
    KeptByRuns fun t => (t.port p).allocation = a ∧ (t.port p).capped = b ∧ ((t.port p).state = .recycle ∨ (t.port p).state = .inrush) where
  queued t e _ _ _ h := by
    rw [port_grantQueued, if_neg]
    · exact h
    · rintro ⟨rfl, hst⟩
      simp [hst] at h
  reserved t e _ _ h := by
    rw [port_grantReserved]
    split
    next hp =>
      obtain ⟨rfl, -⟩ := hp
      exact ⟨h.1, h.2.1, .inr rfl⟩
    · exact h
  passes t l h := by rw [port_raisePassCounts]; exact h
  pop t _ h := by
    unfold State.popRecord
    split
    · exact h
    next r below _ =>
      rw [port_post]
      refine foldl_keeps (P := fun u : State => (u.port p).allocation = a ∧ (u.port p).capped = b
        ∧ ((u.port p).state = .recycle ∨ (u.port p).state = .inrush)) ?_ r.entries _ h
      intro u e hu
      rw [port_restorePort, if_neg]
      · exact hu
      · rintro ⟨rfl, hst⟩
        simp [hst] at hu

/-- The record as its off-time is over (R148). -/
def PortRecord.waitSlot (r : PortRecord) : PortRecord := { r with recyclePhase := some .waitSlot, countdown := .idle }

/-- A radio waiting for its slot, with its entry in the queue (R148). -/
def State.waitSlot (s : State) (p : Port) : State :=
  { s.updPort p PortRecord.waitSlot with
    queue := placeEntry ⟨p, s.priorityOf p, .reserved, s.queue.length + 1, 0⟩ s.queue }

theorem port_waitSlot (s : State) (p q : Port) :
    (s.waitSlot p).port q = if q = p then (s.port p).waitSlot else s.port q := port_updPort s p q PortRecord.waitSlot

theorem inrushCount_waitSlot (s : State) (p : Port) : (s.waitSlot p).inrushCount = s.inrushCount := by
  rw [inrushCount_eq, inrushCount_eq]
  refine List.countP_congr fun q _ => ?_
  rw [port_waitSlot]
  split
  next hq =>
    rw [hq]
    rfl
  · rfl

theorem expireOffTime_waits {c : Ceiling} (hst : (s.port (ceilingPort c)).state = .recycle)
    (hph : (s.port (ceilingPort c)).recyclePhase = some .offTime) (hdue : (s.port (ceilingPort c)).countdown = .due)
    (hnone : s.entryOf (ceilingPort c) = none) : s.expireOffTime c = (s.waitSlot (ceilingPort c)).arbiterRun :=
  (if_pos ⟨hst, hph, (expired_iff _).mpr hdue⟩).trans
    (congrArg State.arbiterRun (joinQueue_of_none (s := s.updPort (ceilingPort c) _) ((entryOf_congr rfl _).trans hnone) .reserved))

end

/-- Settles O42: the RESERVED entry is granted at the head with a slot free, and no run finds one with the slots full. -/
theorem offTimeExpiryWaitsForASlot : Obligations.OffTimeExpiryWaitsForASlot := by
  intro s c hs p
  refine ⟨fun hst hph hdue hnone => ?waits, fun h => exec_next (taken_awake hs _) (if_neg fun ⟨hst, hph, hdue⟩ =>
    h.elim (· hst) (·.elim (· hph) (· ((expired_iff _).mp hdue))))⟩
  have heq := expireOffTime_waits hst hph hdue hnone
  have hself := (port_waitSlot s p p).trans (if_pos rfl)
  obtain ⟨hallocation, hcapped, -⟩ := arbiterRun_keeps (radio_kept p (s.port p).allocation (s.port p).capped) (s.waitSlot p)
    (by rw [hself]; exact ⟨rfl, rfl, .inl hst⟩)
  refine ⟨s.expireOffTime c, taken_awake hs _, heq, ?_, ?_, fun hslot hold => ?granted, fun hfull => ?full, ?_, sameHost_expireOffTime c s⟩
  all_goals rw [heq]
  · exact hallocation
  · exact hcapped
  case granted =>
    have hgrant : ((s.waitSlot p).grantReserved p).port p = _ := (port_grantReserved _ p p).trans (if_pos ⟨rfl, by rw [hself]; exact ⟨hst, rfl⟩⟩)
    have hrun := arbiterRun_reserved (s := s.waitSlot p) (e := ⟨p, s.priorityOf p, .reserved, s.queue.length + 1, 0⟩)
      (settled_kept ((s.waitSlot p).grantReserved p) p (by rw [hgrant]; rfl))
      (placeEntry_reserved rfl hold) rfl
      (by rw [inrushCount_waitSlot]; exact hslot) rfl
    rw [hrun, hgrant, hself]
    exact ⟨rfl, rfl⟩
  case full =>
    rw [arbiterRun_full (by rw [inrushCount_waitSlot]; exact hfull), hself]
    exact ⟨hst, rfl⟩
  · exact settledPortsKept_arbiterRun fun q hq => (port_waitSlot s p q).trans (if_neg hq)

end Sys2Proof.Machine
end

section
/-! PROOFS. Batches, the restore test and the hold (R127 to R133), and the arbiter walk (R113 to R117). -/

namespace Sys2Proof.Machine

/-! ### Batches -/

/-- A batch recorded and posted, before its report to a gap measurement (R127). -/
def State.batched (s : State) (k : ShedCause) (b : List ShedEntry) : State :=
  (s.clearMarks.recordBatch k b).post (.shed k b.length (b.map (·.allocation)).sum)

theorem makeBatch_present {s : State} (h : s.supply.state = .present) (k : ShedCause) (b : List ShedEntry) : s.makeBatch k b = s.batched k b :=
  if_neg (by simp [State.disturbed, h])

theorem makeBatch_disturbed {s : State} (h : s.supply.state ≠ .present) (k : ShedCause) (b : List ShedEntry) :
    s.makeBatch k b = (s.batched k b).reportShed b.length := if_pos (by simp [State.disturbed, h])

theorem batched_keeps (s : State) (k : ShedCause) (b : List ShedEntry) :
    (s.batched k b).supply = s.supply ∧ (s.batched k b).ledger = s.ledger ∧ (s.batched k b).ceilings = s.ceilings := by simp [State.batched]

theorem notices_batched (s : State) (k : ShedCause) (b : List ShedEntry) :
    (s.batched k b).notices = (s.post (.shed k b.length (b.map (·.allocation)).sum)).notices :=
  notices_post_congr (by simp) (by simp) _

/-- No entry is MARKED after the entries have lost their marks (R127). -/
theorem not_marked_unmarkEntries (s : State) : ∀ e ∈ s.unmarkEntries.queue, e.kind ≠ .marked := by
  intro e he
  unfold State.unmarkEntries at he
  rw [mem_reorder, List.mem_map] at he
  obtain ⟨x, -, rfl⟩ := he
  split
  · nofun
  next h => exact h

/-- Settles O47: the marks, the record, the notice and the report, each by its own operation. -/
theorem batchIsPushedOrMerged : Obligations.BatchIsPushedOrMerged := by
  intro s cause batch t hold
  refine ⟨port_makeBatch s cause batch, fun e he => not_marked_unmarkEntries s e (queue_makeBatch s cause batch ▸ he),
    fun h => stack_makeBatch_push h cause batch, fun top below hst h => stack_makeBatch_merge hst h cause batch, ?_⟩
  obtain ⟨hsupply, hledger, hceilings⟩ := batched_keeps s cause batch
  have hnotices := notices_batched s cause batch
  by_cases hp : s.supply.state = .present
  · have ht : t = s.batched cause batch := makeBatch_present hp cause batch
    rw [if_pos hp, ht]
    exact ⟨hnotices, congrArg SupplyMonitor.measurement hsupply, ht ▸ sameHost_makeBatch cause batch s, hledger, hceilings⟩
  · have ht : t = (s.batched cause batch).reportShed batch.length := makeBatch_disturbed hp cause batch
    rw [if_neg hp, ht, ← hsupply]
    exact ⟨hnotices, rfl, ht ▸ sameHost_makeBatch cause batch s, hledger, hceilings⟩

/-! ### The restore test -/

section
variable {s : State}

theorem holdExpired_iff (r : ShedRecord) : r.holdExpired = true ↔ r.hold = .idle := beq_iff_eq

/-- The restore test passes on the top record's hold and its total (R132). -/
theorem restorePasses_iff {r : ShedRecord} {below : List ShedRecord} (h : s.stack = r :: below) :
    s.restorePasses = true ↔ r.hold = .idle ∧ (r.total : Int) ≤ (s.ledger.available : Int) - s.committed - s.pledged
      - s.settings.supply.restoreHysteresis := by
  unfold State.restorePasses
  rw [h]
  dsimp only
  rw [Bool.and_eq_true, holdExpired_iff, decide_eq_true_iff]

/-- Pledged changes by what one record's change does to its own pledge (R94). -/
theorem pledged_updPort (s : State) (p : Port) (f : PortRecord → PortRecord) :
    (s.updPort p f).pledged + (s.port p).mark.getD 0 = s.pledged + (f (s.port p)).mark.getD 0 := by
  have hp : p ∈ allPorts := List.mem_finRange p
  have hrest : ((allPorts.erase p).map fun q => ((s.updPort p f).port q).mark.getD 0) = (allPorts.erase p).map fun q => (s.port q).mark.getD 0 :=
    List.map_congr_left fun q hq => by
      have hne : q ≠ p := ((List.nodup_finRange 56).mem_erase_iff.mp hq).1
      rw [port_updPort_ne s f hne]
  rw [pledged_eq, pledged_eq, ← List.sum_map_erase (fun q => ((s.updPort p f).port q).mark.getD 0) hp,
    ← List.sum_map_erase (fun q => (s.port q).mark.getD 0) hp, hrest, port_updPort_self]
  omega

/-- A SHED port without a pledge brings its allocation at shed into Pledged as it is restored (R94, R133). -/
theorem pledged_restorePort {e : ShedEntry} (hst : (s.port e.port).state = .shed) (hm : (s.port e.port).mark = none) :
    (s.restorePort e).pledged = s.pledged + e.allocation := by
  have heq : s.restorePort e = s.updPort e.port fun r =>
      { PortRecord.searching s.settings.timing.detectionInterval r with mark := some e.allocation } := by
    unfold State.restorePort
    rw [if_pos hst, enterSearch_eq, updPort_updPort]
  have hsum := pledged_updPort s e.port fun r =>
      { PortRecord.searching s.settings.timing.detectionInterval r with mark := some e.allocation }
  rw [hm] at hsum
  rw [heq]
  exact hsum

/-- Pledged rises by the total of the ports that a pop restores (R133). -/
theorem pledged_restores {l : List ShedEntry} (hl : (l.map (·.port)).Nodup) (s : State) :
    (∀ e ∈ l, (s.port e.port).state = .shed ∧ (s.port e.port).mark = none) →
      (l.foldl State.restorePort s).pledged = s.pledged + (l.map (·.allocation)).sum := by
  induction l generalizing s with
  | nil => exact fun _ => rfl
  | cons x l ih =>
    intro h
    obtain ⟨hx, hl⟩ := List.nodup_cons.mp hl
    obtain ⟨⟨hst, hm⟩, hrest⟩ := List.forall_mem_cons.mp h
    have hothers : ∀ e ∈ l, (s.restorePort x).port e.port = s.port e.port := fun e he => by
      have hne : e.port ≠ x.port := fun h => hx (List.mem_map.mpr ⟨e, he, h⟩)
      rw [port_restorePort, if_neg fun h => hne h.1]
    rw [List.foldl_cons, ih hl _ fun e he => by rw [hothers e he]; exact hrest e he, pledged_restorePort hst hm, List.map_cons,
      List.sum_cons, Nat.add_assoc]

theorem pledged_congr {s t : State} (h : t.ports = s.ports) : t.pledged = s.pledged := by
  unfold State.pledged
  rw [h]

theorem port_popRecord {r : ShedRecord} {below : List ShedRecord} (h : s.stack = r :: below) (q : Port) :
    s.popRecord.port q = (r.entries.foldl State.restorePort { s with stack := below }).port q := by
  rw [popRecord_of_cons h, port_post]

/-- A pop leaves everything of the state but the ports, the stack and the notices (R133). -/
theorem popRecord_keeps (s : State) : s.popRecord.queue = s.queue ∧ s.popRecord.ledger = s.ledger ∧ s.sameHost s.popRecord :=
  ⟨queue_popRecord s, ledger_popRecord s, sameHost_popRecord s⟩

theorem notices_popRecord {r : ShedRecord} {below : List ShedRecord} (h : s.stack = r :: below) :
    s.popRecord.notices = (s.post (.restored r.entries.length r.total)).notices := by
  rw [popRecord_of_cons h]
  have hkept := foldl_keeps (P := fun t : State => t.notices = s.notices ∧ t.now = s.now) (f := State.restorePort) (fun t e ht => by
    unfold State.restorePort
    split
    · simpa using ht
    · exact ht) r.entries { s with stack := below } ⟨rfl, rfl⟩
  exact notices_post_congr hkept.1 hkept.2 _

end

/-- Settles O48: a listed port is SHED without a mark, so that the pop restores it and Pledged rises by the record's total. -/
theorem holdExpiryAndTheRestoreTest : Obligations.HoldExpiryAndTheRestoreTest := by
  refine ⟨fun s hm hl => ⟨fun r below hst => ⟨fun hpass => ?pops, fun hfail => if_neg fun h => hfail ((restorePasses_iff hst).mp h)⟩, restoreTest_empty⟩,
    fun s depth hs => ⟨fun r hr hdue => exec_next (taken_awake hs _) ?expires, fun hnone => exec_next (taken_awake hs _) ?ignored⟩⟩
  case pops =>
    intro t
    have ht : t = s.popRecord := if_pos ((restorePasses_iff hst).mpr hpass)
    clear_value t
    subst ht
    obtain ⟨hqueue, hledger, hhost⟩ := popRecord_keeps s
    have hlisted : s.listedPorts = r.entries.map (·.port) ++ below.flatMap fun r => r.entries.map (·.port) := by
      unfold State.listedPorts
      rw [hst, List.flatMap_cons]
    obtain ⟨hnd, hmem⟩ := hl
    rw [hlisted] at hnd hmem
    have hports := hnd.of_append_left
    have hshed : ∀ e ∈ r.entries, (s.port e.port).state = .shed ∧ (s.port e.port).mark = none := fun e he => by
      have hstate := (hmem e.port).mp (List.mem_append_left _ (List.mem_map_of_mem he))
      refine ⟨hstate, Option.not_isSome_iff_eq_none.mp fun hmark => ?_⟩
      simpa [hstate] using hm e.port hmark
    have hlistedPort : ∀ e ∈ r.entries, s.popRecord.port e.port = s.restored (s.port e.port) e.allocation := fun e he =>
      (port_popRecord hst _).trans (port_restores_listed hports he _ (hshed e he).1)
    refine ⟨stack_popRecord hst, ?_, hledger, hqueue, fun e he => ?_, fun p hp => ?_, notices_popRecord hst, hhost, ?_⟩
    · rw [popRecord_of_cons hst, pledged_congr (post_ports _ _)]
      exact pledged_restores hports _ hshed
    · rw [hlistedPort e he]
      exact ⟨rfl, rfl, rfl, rfl⟩
    · exact (port_popRecord hst p).trans (port_restores_other hp _)
    · exact ((monitors_kept s).pop s ((restorePasses_iff hst).mpr hpass) ⟨rfl, rfl, rfl, rfl, rfl, rfl⟩).1
  case expires =>
    unfold State.expireHold
    rw [hr]
    exact if_pos ((expired_iff _).mpr hdue)
  case ignored =>
    unfold State.expireHold
    split
    · rfl
    next r hr => exact if_neg fun h => hnone r hr ((expired_iff _).mp h)

/-! ### The steps of a walk -/

section
variable {s : State} {e : QueueEntry} {level : Option Priority}

/-- With a slot free, an entry of another level ends a confined walk (R116). -/
theorem walk_confined (hslot : s.inrushCount < s.settings.timing.inrushSlots) (hk : e.kind ≠ .reserved) {l : Priority}
    (hl : level = some l) (hne : l ≠ e.priority) (rest : List QueueEntry) (passed : List Port) (granted : Bool) :
    walk (e :: rest) level passed granted s = (s, granted) := by
  rw [walk, if_neg (Nat.not_le_of_lt hslot), if_neg hk, if_pos (by simp [hl, hne])]

section
variable (hslot : s.inrushCount < s.settings.timing.inrushSlots) (hk : e.kind ≠ .reserved) (hl : ∀ l, level = some l → l = e.priority)
include hslot hk hl

theorem walk_open (rest : List QueueEntry) (passed : List Port) (granted : Bool) :
    walk (e :: rest) level passed granted s =
      if s.fits e then walk rest level passed (granted || e.kind == .marked) ((s.grantQueued e.port).raisePassCounts passed)
      else if s.settings.timing.passLimit ≤ e.passCount then (s, granted)
      else walk rest (some e.priority) (e.port :: passed) granted s := by
  have hopen : ¬ (level.isSome = true ∧ level ≠ some e.priority) := by
    rintro ⟨hsome, hne⟩
    obtain ⟨l, hlevel⟩ := Option.isSome_iff_exists.mp hsome
    exact hne (hlevel.trans (congrArg some (hl l hlevel)))
  rw [walk, if_neg (Nat.not_le_of_lt hslot), if_neg hk, if_neg hopen]

/-- An entry that fits is granted, and the entries passed over are counted (R115, R117). -/
theorem walk_fits (hf : s.fits e = true) (rest : List QueueEntry) (passed : List Port) (granted : Bool) :
    walk (e :: rest) level passed granted s =
      walk rest level passed (granted || e.kind == .marked) ((s.grantQueued e.port).raisePassCounts passed) := by
  rw [walk_open hslot hk hl, if_pos hf]

/-- An entry without slack that does not fit ends the walk (R116). -/
theorem walk_blocked (hf : s.fits e = false) (hp : s.settings.timing.passLimit ≤ e.passCount) (rest : List QueueEntry) (passed : List Port)
    (granted : Bool) : walk (e :: rest) level passed granted s = (s, granted) := by
  rw [walk_open hslot hk hl, if_neg (by simp [hf]), if_pos hp]

/-- An entry with slack that does not fit is passed over, and the walk confined to its level (R116). -/
theorem walk_passes (hf : s.fits e = false) (hp : e.passCount < s.settings.timing.passLimit) (rest : List QueueEntry) (passed : List Port)
    (granted : Bool) : walk (e :: rest) level passed granted s = walk rest (some e.priority) (e.port :: passed) granted s := by
  rw [walk_open hslot hk hl, if_neg (by simp [hf]), if_neg (Nat.not_le_of_lt hp)]

end

end

/-! ### The runs of an arbiter run -/

theorem length_leaveQueue_le (s : State) (p : Port) : (s.leaveQueue p).queue.length ≤ s.queue.length := by
  have h := congrArg List.length (ports_leaveQueue s p)
  rw [List.length_map] at h
  rw [h]
  exact (List.length_filter_le _ _).trans (List.length_map ..).le

theorem length_leaveQueue_lt {s : State} {p : Port} (hp : p ∈ s.queue.map (·.port)) : (s.leaveQueue p).queue.length < s.queue.length := by
  have h := congrArg List.length (ports_leaveQueue s p)
  rw [List.length_map] at h
  rw [h, ← List.length_map (f := (·.port)) (as := s.queue)]
  exact List.length_filter_lt_length_iff_exists.mpr ⟨p, hp, by simp⟩

theorem length_raisePassCounts (s : State) (l : List Port) : (s.raisePassCounts l).queue.length = s.queue.length := List.length_map _

theorem length_grantQueued_passes (s : State) (p : Port) (l : List Port) :
    ((s.grantQueued p).raisePassCounts l).queue.length = (s.leaveQueue p).queue.length := by
  rw [length_raisePassCounts, queue_grantQueued]

/-- A walk adds no entry. -/
theorem walk_length_le (q : List QueueEntry) : ∀ level passed granted (s : State), (walk q level passed granted s).1.queue.length ≤ s.queue.length := by
  induction q with
  | nil => exact fun _ _ _ s => le_rfl
  | cons e rest ih =>
    intro level passed granted s
    unfold walk
    split
    · exact le_rfl
    split
    · refine (ih _ _ _ _).trans ?_
      rw [queue_grantReserved]
      exact length_leaveQueue_le s e.port
    split
    · exact le_rfl
    split
    · refine (ih _ _ _ _).trans ?_
      rw [length_grantQueued_passes]
      exact length_leaveQueue_le s e.port
    split
    · exact le_rfl
    · exact ih _ _ _ _

/-- A walk that grants a MARKED entry of the queue takes an entry out of it (R91, R109). -/
theorem walk_length_lt (q : List QueueEntry) : ∀ level passed (s : State), (∀ e ∈ q, e ∈ s.queue) → (walk q level passed false s).2 = true →
    (walk q level passed false s).1.queue.length < s.queue.length := by
  induction q with
  | nil => exact fun _ _ s _ h => Bool.noConfusion h
  | cons e rest ih =>
    intro level passed s hmem h
    obtain ⟨he, hrest⟩ := List.forall_mem_cons.mp hmem
    have hleft : (s.leaveQueue e.port).queue.length < s.queue.length := length_leaveQueue_lt (List.mem_map_of_mem he)
    unfold walk at h ⊢
    split at h <;> rename_i hslot
    · cases h
    rw [if_neg hslot]
    split at h <;> rename_i hk
    · rw [if_pos hk]
      refine (walk_length_le _ _ _ _ _).trans_lt ?_
      rw [queue_grantReserved]
      exact hleft
    rw [if_neg hk]
    split at h <;> rename_i hl
    · cases h
    rw [if_neg hl]
    split at h <;> rename_i hf
    · rw [if_pos hf]
      refine (walk_length_le _ _ _ _ _).trans_lt ?_
      rw [length_grantQueued_passes]
      exact hleft
    rw [if_neg hf]
    split at h <;> rename_i hp
    · cases h
    rw [if_neg hp]
    exact ih _ _ s hrest h

theorem queue_restoreTest (s : State) : s.restoreTest.queue = s.queue := by
  unfold State.restoreTest
  split
  · exact queue_popRecord s
  · rfl

/-- As many runs as the queue has entries, and one, are enough. -/
theorem arbiterRuns_enough (n : Nat) : ∀ (m : Nat) (s : State), s.queue.length < n → s.queue.length < m → arbiterRuns n s = arbiterRuns m s := by
  induction n with
  | zero => exact fun m s hn _ => absurd hn (Nat.not_lt_zero _)
  | succ n ih =>
    intro m s hn hm
    cases m with
    | zero => exact absurd hm (Nat.not_lt_zero _)
    | succ m =>
      unfold arbiterRuns
      dsimp only
      split
      next hw =>
        have hlt := walk_length_lt s.queue none [] s (fun e he => he) hw
        rw [← queue_restoreTest] at hlt
        exact ih m _ (by omega) (by omega)
      · rfl

/-- An arbiter run is one walk, and a restore run after one that granted a MARKED entry (R91, R113). -/
theorem arbiterRun_eq (s : State) :
    s.arbiterRun = if (walk s.queue none [] false s).2 then (walk s.queue none [] false s).1.restoreRun else (walk s.queue none [] false s).1 := by
  unfold State.arbiterRun
  rw [arbiterRuns]
  split
  next hw =>
    have hlt := walk_length_lt s.queue none [] s (fun e he => he) hw
    rw [← queue_restoreTest] at hlt
    exact arbiterRuns_enough _ _ _ hlt (Nat.lt_succ_self _)
  · rfl

/-- A walk that stops where it began leaves everything as it was. -/
theorem arbiterRun_of_walk {s t : State} (h : walk s.queue none [] false s = (t, false)) : s.arbiterRun = t := by
  rw [arbiterRun_eq, h]
  rfl

section
variable {s : State} {e x : QueueEntry} {rest : List QueueEntry}

/-- An arbiter run that finds a slot free and a head that fits makes that grant first (R115). -/
theorem arbiterRun_fits {P : State → Prop} (h : KeptByRuns P) (hq : s.queue = e :: rest) (hk : e.kind ≠ .reserved)
    (hslot : s.inrushCount < s.settings.timing.inrushSlots) (hf : s.fits e = true) (hP : P (s.grantQueued e.port)) : P s.arbiterRun := by
  have hwalk := walk_keeps h.toKeptByGrants rest none [] (false || e.kind == .marked) _ (h.passes _ [] hP)
  rw [arbiterRun_eq, hq, walk_fits hslot hk (by simp) hf]
  split
  · exact restoreRun_keeps h _ hwalk
  · exact hwalk

/-- A head that does not fit, with no other entry of its level behind it, ends the walk (R116). -/
theorem arbiterRun_unfit (hq : s.queue = e :: rest) (hk : e.kind ≠ .reserved)
    (hslot : s.inrushCount < s.settings.timing.inrushSlots) (hf : s.fits e = false)
    (hend : s.settings.timing.passLimit ≤ e.passCount
      ∨ ∀ x, rest.head? = some x → x.kind ≠ .reserved ∧ x.priority ≠ e.priority) : s.arbiterRun = s := by
  refine arbiterRun_of_walk ?_
  rw [hq]
  by_cases hp : s.settings.timing.passLimit ≤ e.passCount
  · exact walk_blocked hslot hk (by simp) hf hp rest [] false
  · rw [walk_passes hslot hk (by simp) hf (Nat.lt_of_not_le hp)]
    cases rest with
    | nil => rfl
    | cons x rest =>
      obtain ⟨hxk, hxp⟩ := hend.resolve_left hp x rfl
      exact walk_confined hslot hxk rfl hxp.symm rest _ false

/-- Of two entries of one level, the second is granted past the first (R116, R117). -/
theorem arbiterRun_second (hq : s.queue = [e, x]) (hke : e.kind = .ordinary) (hkx : x.kind = .ordinary) (hpri : x.priority = e.priority)
    (hslot : s.inrushCount < s.settings.timing.inrushSlots) (hfe : s.fits e = false) (hp : e.passCount < s.settings.timing.passLimit)
    (hfx : s.fits x = true) : s.arbiterRun = (s.grantQueued x.port).raisePassCounts [e.port] := by
  refine arbiterRun_of_walk ?_
  rw [hq, walk_passes hslot (by simp [hke]) (by simp) hfe hp, walk_fits hslot (by simp [hkx]) (by simp [hpri]) hfx, hkx]
  rfl

theorem queue_passed (hq : s.queue = [e, x]) (hne : x.port ≠ e.port) :
    ((s.grantQueued x.port).raisePassCounts [e.port]).queue =
      [{ e with
        passCount := min (e.passCount + 1) 15
        joinRank := if x.joinRank < e.joinRank then e.joinRank - 1 else e.joinRank }] := by
  have hentry : s.entryOf x.port = some x := by simp [State.entryOf, hq, hne.symm]
  have hleft : (s.leaveQueue x.port).queue = [if x.joinRank < e.joinRank then { e with joinRank := e.joinRank - 1 } else e] := by
    simp [State.leaveQueue, hentry, hq, hne.symm]
  unfold State.raisePassCounts
  dsimp only
  rw [queue_grantQueued, hleft]
  split <;> simp

end

/-- Settles O49: a walk step by step, and the runs of an arbiter run from its first grant on. -/
theorem arbiterRunGrantsTheHead : Obligations.ArbiterRunGrantsTheHead := by
  intro s
  refine ⟨arbiterRun_empty, arbiterRun_full, arbiterRun_eq s, fun e rest level passed granted => ⟨fun h => walk_full h _ _ _ _, fun hslot hk => ?step⟩,
    fun e rest hq hslot => ⟨fun hk hst hph => ?reserved, fun hk hf hst => ?fits, fun hk hf hend => arbiterRun_unfit hq hk hslot hf hend, ?second⟩⟩
  case step =>
    exact ⟨fun ⟨l, hl, hne⟩ => walk_confined hslot hk hl hne rest passed granted, fun hl =>
      ⟨fun hf => ⟨_, walk_fits hslot hk hl hf rest passed granted, rfl⟩, fun hf hp => walk_blocked hslot hk hl hf hp rest passed granted,
        fun hf hp => walk_passes hslot hk hl hf hp rest passed granted⟩⟩
  case reserved =>
    have hgrant := (port_grantReserved s e.port e.port).trans (if_pos ⟨rfl, hst, hph⟩)
    have hrun := arbiterRun_reserved (settled_kept (s.grantReserved e.port) e.port (by rw [hgrant]; rfl)) hq hk hslot rfl
    rw [hrun, hgrant]
    exact ⟨rfl, rfl⟩
  case fits =>
    have hgrant := (port_grantQueued s e.port e.port).trans (if_pos ⟨rfl, hst⟩)
    obtain ⟨hrun, hcommit⟩ := arbiterRun_fits (commit_kept (s.grantQueued e.port) e.port (by rw [hgrant]; rfl)) hq hk hslot hf ⟨rfl, Iff.rfl⟩
    rw [hrun, hgrant, hcommit, commitList_grantQueued, if_pos hst]
    exact ⟨rfl, rfl, rfl, List.mem_append_right _ List.mem_cons_self⟩
  case second =>
    rintro x rfl hne hke hkx hpri hfe hp hfx hst
    have hgrant := (port_grantQueued s x.port x.port).trans (if_pos ⟨rfl, hst⟩)
    rw [arbiterRun_second hq hke hkx hpri hslot hfe hp hfx, port_raisePassCounts, hgrant]
    exact ⟨queue_passed hq hne, rfl, rfl⟩

end Sys2Proof.Machine
end

section
/-! PROOFS. What the request handlers do not look at: the receiver's condition, its buffer, its byte gap, and whether a reset is in progress (R154, R158,
R168); and so a request's command and the bytes of its frame (log entry 5). -/

namespace Sys2Proof.Machine

/-! ### A state put into another frame -/

/-- The receiver's part of the line, and the reset in progress. -/
structure Framing where
  receiver : ReceiverState
  buffer : List Byte
  byteGap : Countdown
  inReset : Option ResetCause

/-- The state with the receiver as it stands in another frame, and with another reset in progress. -/
def State.framed (s : State) (x : Framing) : State :=
  { s with
    line := { s.line with receiver := x.receiver, buffer := x.buffer, byteGap := x.byteGap }
    unit := { s.unit with inReset := x.inReset } }

theorem ite_framed {c : Prop} [Decidable c] {a b a' b' : State} {x : Framing} (ha : a' = a.framed x) (hb : b' = b.framed x) :
    (if c then a' else b') = (if c then a else b).framed x := by
  split
  · exact ha
  · exact hb

section
variable (s : State) (x : Framing)

@[simp] theorem framed_settings : (s.framed x).settings = s.settings := rfl
@[simp] theorem framed_supply : (s.framed x).supply = s.supply := rfl
@[simp] theorem framed_ledger : (s.framed x).ledger = s.ledger := rfl
@[simp] theorem framed_stack : (s.framed x).stack = s.stack := rfl
@[simp] theorem framed_queue : (s.framed x).queue = s.queue := rfl
@[simp] theorem framed_unitState : (s.framed x).unit.unitState = s.unit.unitState := rfl

/-! ### What the operations read -/

@[simp] theorem port_framed (p : Port) : (s.framed x).port p = s.port p := rfl
@[simp] theorem portSettings_framed (p : Port) : (s.framed x).portSettings p = s.portSettings p := rfl
@[simp] theorem entryOf_framed (p : Port) : (s.framed x).entryOf p = s.entryOf p := rfl
@[simp] theorem inrushCount_framed : (s.framed x).inrushCount = s.inrushCount := rfl
@[simp] theorem fits_framed (e : QueueEntry) : (s.framed x).fits e = s.fits e := rfl
@[simp] theorem computeAllocation_framed (p : Port) : (s.framed x).computeAllocation p = s.computeAllocation p := rfl
@[simp] theorem allocationOf_framed (p : Port) : (s.framed x).allocationOf p = s.allocationOf p := rfl
@[simp] theorem committed_framed : (s.framed x).committed = s.committed := rfl
@[simp] theorem candidates_framed : (s.framed x).candidates = s.candidates := rfl
@[simp] theorem restorePasses_framed : (s.framed x).restorePasses = s.restorePasses := rfl

/-! ### Single changes -/

@[simp] theorem updPort_framed (p : Port) (f : PortRecord → PortRecord) : (s.framed x).updPort p f = (s.updPort p f).framed x := rfl
@[simp] theorem updSupply_framed (f : SupplyMonitor → SupplyMonitor) : (s.framed x).updSupply f = (s.updSupply f).framed x := rfl
@[simp] theorem raisePassCounts_framed (l : List Port) : (s.framed x).raisePassCounts l = (s.raisePassCounts l).framed x := rfl
@[simp] theorem shrinkRecord_framed (p : Port) : (s.framed x).shrinkRecord p = (s.shrinkRecord p).framed x := rfl
@[simp] theorem clearMarks_framed : (s.framed x).clearMarks = s.clearMarks.framed x := rfl
@[simp] theorem recompute_framed : (s.framed x).recompute = s.recompute.framed x := rfl
@[simp] theorem writeAdmin_framed (p : Port) (a : Bool) : (s.framed x).writeAdmin p a = (s.writeAdmin p a).framed x := rfl

@[simp] theorem post_framed (b : NoticeBody) : (s.framed x).post b = (s.post b).framed x :=
  ite_framed (ite_framed rfl rfl) rfl

@[simp] theorem endSupervision_framed (p : Port) : (s.framed x).endSupervision p = (s.endSupervision p).framed x := by
  unfold State.endSupervision
  split <;> rfl

@[simp] theorem clearRecycleCount_framed (p : Port) : (s.framed x).clearRecycleCount p = (s.clearRecycleCount p).framed x := by
  unfold State.clearRecycleCount
  split <;> rfl

@[simp] theorem leaveQueue_framed (p : Port) : (s.framed x).leaveQueue p = (s.leaveQueue p).framed x := by
  unfold State.leaveQueue
  rw [entryOf_framed]
  split <;> rfl

@[simp] theorem release_framed (p : Port) : (s.framed x).release p = (s.release p).framed x := by
  unfold State.release
  dsimp only
  rw [updPort_framed, endSupervision_framed]
  rfl

@[simp] theorem enterRecycle_framed (p : Port) : (s.framed x).enterRecycle p = (s.enterRecycle p).framed x := by
  unfold State.enterRecycle
  dsimp only
  rw [updPort_framed, endSupervision_framed]
  rfl

@[simp] theorem enablePort_framed (p : Port) : (s.framed x).enablePort p = (s.enablePort p).framed x := ite_framed rfl rfl

@[simp] theorem wakePort_framed (p : Port) : (s.framed x).wakePort p = (s.wakePort p).framed x :=
  ite_framed (ite_framed rfl rfl) rfl

@[simp] theorem applyPriority_framed (p : Port) (k : Priority) : (s.framed x).applyPriority p k = (s.applyPriority p k).framed x :=
  ite_framed rfl rfl

@[simp] theorem recordBatch_framed (k : ShedCause) (b : List ShedEntry) :
    (s.framed x).recordBatch k b = (s.recordBatch k b).framed x := by
  unfold State.recordBatch
  rw [framed_stack]
  split
  · split <;> rfl
  · rfl

@[simp] theorem makeBatch_framed (k : ShedCause) (b : List ShedEntry) : (s.framed x).makeBatch k b = (s.makeBatch k b).framed x := by
  unfold State.makeBatch
  dsimp only
  rw [clearMarks_framed, recordBatch_framed, post_framed]
  exact ite_framed rfl rfl

@[simp] theorem shedPort_framed (p : Port) : (s.framed x).shedPort p = (s.shedPort p).framed x := by
  unfold State.shedPort
  rw [leaveQueue_framed, release_framed, updPort_framed]

/-! ### Grants, walks and runs -/

@[simp] theorem grantReserved_framed (p : Port) : (s.framed x).grantReserved p = (s.grantReserved p).framed x := by
  unfold State.grantReserved
  rw [leaveQueue_framed]
  exact ite_framed rfl rfl

@[simp] theorem grantQueued_framed (p : Port) : (s.framed x).grantQueued p = (s.grantQueued p).framed x := by
  unfold State.grantQueued
  rw [leaveQueue_framed, computeAllocation_framed]
  exact ite_framed rfl rfl

@[simp] theorem restorePort_framed (e : ShedEntry) : (s.framed x).restorePort e = (s.restorePort e).framed x := ite_framed rfl rfl

end

/-- A fold of changes that ignore the frame ignores it. -/
theorem foldl_framed {α : Type} {f : State → α → State} {x : Framing} (h : ∀ s a, f (s.framed x) a = (f s a).framed x) (l : List α) :
    ∀ s : State, l.foldl f (s.framed x) = (l.foldl f s).framed x := by
  induction l with
  | nil => exact fun _ => rfl
  | cons a l ih =>
    intro s
    rw [List.foldl_cons, List.foldl_cons, h, ih]

section
variable (x : Framing)

theorem walk_framed (q : List QueueEntry) : ∀ level passed granted (s : State), walk q level passed granted (s.framed x) =
    ((walk q level passed granted s).1.framed x, (walk q level passed granted s).2) := by
  induction q with
  | nil => exact fun _ _ _ _ => rfl
  | cons e rest ih =>
    intro level passed granted s
    unfold walk
    rw [framed_settings, inrushCount_framed, grantReserved_framed, ih, fits_framed, grantQueued_framed, raisePassCounts_framed, ih, ih]
    split
    · rfl
    · split
      · rfl
      · split
        · rfl
        · split
          · rfl
          · split <;> rfl

theorem shedStep_framed (ps : List Port) : ∀ (b : List ShedEntry) (s : State),
    shedStep ps b (s.framed x) = ((shedStep ps b s).1, (shedStep ps b s).2.framed x) := by
  induction ps with
  | nil => exact fun _ _ => rfl
  | cons p ps ih =>
    intro b s
    unfold shedStep
    rw [committed_framed, framed_ledger, allocationOf_framed, shedPort_framed, ih]
    split <;> rfl

@[simp] theorem popRecord_framed (s : State) : (s.framed x).popRecord = s.popRecord.framed x := by
  unfold State.popRecord
  rw [framed_stack]
  split
  · rfl
  next r below _ =>
    rw [← post_framed, ← foldl_framed fun s e => restorePort_framed s x e]
    rfl

@[simp] theorem restoreTest_framed (s : State) : (s.framed x).restoreTest = s.restoreTest.framed x := by
  unfold State.restoreTest
  rw [restorePasses_framed, popRecord_framed]
  split <;> rfl

theorem arbiterRuns_framed (n : Nat) : ∀ s : State, arbiterRuns n (s.framed x) = (arbiterRuns n s).framed x := by
  induction n with
  | zero => exact fun _ => rfl
  | succ n ih =>
    intro s
    unfold arbiterRuns
    rw [framed_queue, walk_framed]
    dsimp only
    rw [restoreTest_framed, ih]
    split <;> rfl

@[simp] theorem arbiterRun_framed (s : State) : (s.framed x).arbiterRun = s.arbiterRun.framed x := arbiterRuns_framed x _ s

@[simp] theorem restoreRun_framed (s : State) : (s.framed x).restoreRun = s.restoreRun.framed x := by
  unfold State.restoreRun
  rw [restoreTest_framed, arbiterRun_framed]

@[simp] theorem follow_framed (s : State) (k : FollowUp) : (s.framed x).follow k = (s.follow k).framed x := by
  cases k with
  | none => rfl
  | arbiter => exact arbiterRun_framed x s
  | restore => exact restoreRun_framed x s

theorem shedOrRestore_framed (s : State) (k : ShedCause) : (s.framed x).shedOrRestore k = (s.shedOrRestore k).framed x := by
  unfold State.shedOrRestore
  rw [framed_ledger, committed_framed, candidates_framed, shedStep_framed, restoreTest_framed]
  dsimp only
  rw [makeBatch_framed]
  split
  · split <;> rfl
  · rfl

@[simp] theorem evaluate_framed (s : State) (k : ShedCause) : (s.framed x).evaluate k = (s.evaluate k).framed x := by
  unfold State.evaluate
  rw [recompute_framed, shedOrRestore_framed, arbiterRun_framed]

/-! ### Admin and priority changes, windows and profiles -/

theorem disablePort_framed (s : State) (p : Port) : (s.framed x).disablePort p = ((s.disablePort p).1.framed x, (s.disablePort p).2) := by
  unfold State.disablePort
  dsimp only
  rw [port_framed, leaveQueue_framed, release_framed, shrinkRecord_framed]
  split <;> rfl

theorem applyAdmin_framed (s : State) (p : Port) (a : Bool) :
    (s.framed x).applyAdmin p a = ((s.applyAdmin p a).1.framed x, (s.applyAdmin p a).2) := by
  unfold State.applyAdmin
  rw [enablePort_framed, disablePort_framed]
  split <;> rfl

@[simp] theorem switchWindow_framed (s : State) (w : WindowIndex) (fell : Bool) :
    (s.framed x).switchWindow w fell = (s.switchWindow w fell).framed x := by
  unfold State.switchWindow
  rw [updSupply_framed, post_framed]
  rfl

theorem windowRules_framed (s : State) (w : WindowIndex) : (s.framed x).windowRules w = ((s.windowRules w).1.framed x, (s.windowRules w).2) := by
  unfold State.windowRules
  simp only [framed_supply, framed_settings, switchWindow_framed]
  split
  · rfl
  · split
    · rfl
    · split
      · rfl
      · split
        · rfl
        · split <;> rfl

@[simp] theorem rematch_framed (s : State) : (s.framed x).rematch = s.rematch.framed x := by
  unfold State.rematch
  rw [framed_supply]
  split
  · rfl
  · exact congrArg Prod.fst (windowRules_framed x s _)

theorem storeAdmin_framed (s : State) (p : Port) (y : PortSettings) :
    (s.framed x).storeAdmin p y = ((s.storeAdmin p y).1.framed x, (s.storeAdmin p y).2) := by
  have hwritten : (s.framed x).written p y = (s.written p y).framed x := rfl
  unfold State.storeAdmin
  rw [hwritten, applyAdmin_framed, portSettings_framed]
  split <;> rfl

@[simp] theorem storePort_framed (s : State) (i : Fin 2) (p : Port) (y : PortSettings) :
    (s.framed x).storePort i p y = (s.storePort i p y).framed x := by
  by_cases hact : i = s.settings.inForce ∧ s.unit.unitState = .running
  · obtain ⟨rfl, hr⟩ := hact
    have hrun := storePort_inForce (s := s.framed x) hr p y
    rw [storeAdmin_framed] at hrun
    dsimp only at hrun
    rw [follow_framed, applyPriority_framed, evaluate_framed] at hrun
    exact hrun.trans ((ite_framed rfl rfl).trans (congrArg (State.framed · x) (storePort_inForce hr p y).symm))
  · rw [storePort_aside hact]
    exact storePort_aside (s := s.framed x) hact p y

theorem switchAdmins_framed (s : State) (i : Fin 2) : (s.framed x).switchAdmins i = (s.switchAdmins i).framed x := by
  unfold State.switchAdmins
  generalize allPorts = l
  refine foldl_framed (fun t p => ?_) l { s with settings := { s.settings with inForce := i } }
  rw [applyAdmin_framed]
  exact ite_framed rfl rfl

theorem switchPriorities_framed (s : State) (i : Fin 2) : (s.framed x).switchPriorities i = (s.switchPriorities i).framed x := by
  unfold State.switchPriorities
  rw [switchAdmins_framed]
  generalize allPorts = l
  refine foldl_framed (fun t p => ?_) l (s.switchAdmins i)
  rw [applyPriority_framed]
  exact ite_framed rfl rfl

@[simp] theorem switchProfile_framed (s : State) (i : Fin 2) : (s.framed x).switchProfile i = (s.switchProfile i).framed x := by
  cases hu : s.unit.unitState with
  | held =>
    rw [switchProfile_held hu]
    exact switchProfile_held (s := s.framed x) hu i
  | running => rw [switchProfile_running hu, switchProfile_running (s := s.framed x) hu, switchPriorities_framed, evaluate_framed]

@[simp] theorem enterRunning_framed (s : State) (i : Fin 2) (n : Option NoticeBody) : (s.framed x).enterRunning i n = (s.enterRunning i n).framed x := by
  rw [enterRunning_eq, enterRunning_eq, ← evaluate_framed, ← foldl_framed fun s p => wakePort_framed s x p]
  cases n with
  | none => rfl
  | some b => exact congrArg (fun t => (allPorts.foldl State.wakePort t).evaluate .setting) (post_framed (s.commissioned i) x b)

end

/-! ### The handlers -/

/-- An answer with its state put into another frame. -/
def Answer.framed (a : Answer) (x : Framing) : Answer := ⟨a.status, a.content, a.state.framed x⟩

section
variable (s : State) (x : Framing) (body : List Byte)

theorem accept_framed (changed : Bool) {t u : State} (h : u = t.framed x) : accept changed u = (accept changed t).framed x :=
  congrArg (accept changed) h

theorem answerIdentify_framed : answerIdentify body (s.framed x) = (answerIdentify body s).framed x := by
  unfold answerIdentify
  split
  · rfl
  · split <;> rfl

theorem answerCommission_framed : answerCommission body (s.framed x) = (answerCommission body s).framed x := by
  unfold answerCommission
  rw [framed_unitState]
  split
  · rfl
  · split
    · rfl
    · split
      · rfl
      · exact accept_framed x false (enterRunning_framed x s _ none)

theorem answerRestart_framed : answerRestart body (s.framed x) = (answerRestart body s).framed x := by
  unfold answerRestart
  split <;> rfl

theorem answerSetPort_framed : answerSetPort body (s.framed x) = (answerSetPort body s).framed x := by
  unfold answerSetPort
  split
  · rfl
  · split
    · rfl
    · split
      · rfl
      · split
        · exact accept_framed x _ (storePort_framed x s _ _ _)
        · rfl

theorem answerSetGrades_framed : answerSetGrades body (s.framed x) = (answerSetGrades body s).framed x := by
  unfold answerSetGrades
  split <;> rfl

theorem answerSetTiming_framed : answerSetTiming body (s.framed x) = (answerSetTiming body s).framed x := by
  have hstore : ∀ t, (s.framed x).storeTiming t = (s.storeTiming t).framed x := fun t =>
    ite_framed rfl (arbiterRun_framed x { s with settings := { s.settings with timing := t } })
  unfold answerSetTiming
  split
  · rfl
  · exact accept_framed x _ (hstore _)

theorem answerSetSupply_framed : answerSetSupply body (s.framed x) = (answerSetSupply body s).framed x := by
  unfold answerSetSupply
  split
  · rfl
  · exact accept_framed x _ (evaluate_framed x { s with settings := { s.settings with supply := (carriedSupply body).take } } .setting)

theorem answerSetWindow_framed : answerSetWindow body (s.framed x) = (answerSetWindow body s).framed x := by
  have hstore : ∀ g : Settings, ({ s.framed x with settings := g } : State).rematch.evaluate .setting =
      (({ s with settings := g } : State).rematch.evaluate .setting).framed x := fun g => by
    rw [← evaluate_framed, ← rematch_framed]
    rfl
  unfold answerSetWindow
  split
  · rfl
  · split
    · rfl
    · split
      · unfold answerDefaultBudget
        split
        · rfl
        · exact accept_framed x _ (hstore _)
      · unfold answerWindow
        split
        · rfl
        · split
          · rfl
          · dsimp only
            split
            · rfl
            · exact accept_framed x _ (hstore _)

theorem answerSelectProfile_framed : answerSelectProfile body (s.framed x) = (answerSelectProfile body s).framed x := by
  unfold answerSelectProfile
  split
  · rfl
  · split
    · rfl
    · exact accept_framed x false (switchProfile_framed x s _)

theorem answerCommand_framed (k : PortCommand) (p : Port) : answerCommand k p (s.framed x) = (answerCommand k p s).framed x := by
  cases k with
  | enable => exact accept_framed x false (enablePort_framed (s.writeAdmin p true) x p)
  | disable =>
    show answerDisable p (s.framed x) = (answerDisable p s).framed x
    unfold answerDisable
    rw [writeAdmin_framed, disablePort_framed]
    exact accept_framed x false (follow_framed x _ _)
  | clear =>
    show answerClear p (s.framed x) = (answerClear p s).framed x
    unfold answerClear
    rw [port_framed, updPort_framed, clearRecycleCount_framed]
    split <;> rfl
  | recycle =>
    show answerRecycle p (s.framed x) = (answerRecycle p s).framed x
    have hforced : ∀ c, (s.framed x).recycleForced c = (s.recycleForced c).framed x := fun c => by
      unfold State.recycleForced
      rw [enterRecycle_framed, post_framed]
      rfl
    unfold answerRecycle
    simp only [port_framed, hforced]
    split
    · rfl
    · split <;> rfl

theorem answerPortCommand_framed : answerPortCommand body (s.framed x) = (answerPortCommand body s).framed x := by
  unfold answerPortCommand
  rw [framed_unitState]
  split
  · rfl
  · rfl
  · split
    · rfl
    · rfl
    · split
      · rfl
      · rfl
      · exact answerCommand_framed s x _ _

theorem answerShedTo_framed : answerShedTo body (s.framed x) = (answerShedTo body s).framed x := by
  have himpose : ∀ cap, (s.framed x).impose cap = (s.impose cap).framed x := fun cap =>
    evaluate_framed x { s with ledger := { s.ledger with imposedCap := cap } } .imposed
  unfold answerShedTo
  split
  · rfl
  · split
    · rfl
    · exact accept_framed x false (himpose none)
    · exact accept_framed x _ (himpose _)

theorem answerReadPort_framed : answerReadPort body (s.framed x) = (answerReadPort body s).framed x := by
  unfold answerReadPort
  split
  · rfl
  · split <;> rfl

theorem answerReadLedger_framed : answerReadLedger body (s.framed x) = (answerReadLedger body s).framed x := by
  unfold answerReadLedger
  split <;> rfl

theorem answerReadQueue_framed : answerReadQueue body (s.framed x) = (answerReadQueue body s).framed x := by
  unfold answerReadQueue
  split
  · rfl
  · split <;> rfl

theorem answerReadStack_framed : answerReadStack body (s.framed x) = (answerReadStack body s).framed x := by
  unfold answerReadStack
  split
  · rfl
  · split <;> rfl

theorem answerReadGap_framed : answerReadGap body (s.framed x) = (answerReadGap body s).framed x := by
  unfold answerReadGap
  split <;> rfl

theorem answerTakeNotices_framed : answerTakeNotices body (s.framed x) = (answerTakeNotices body s).framed x := by
  unfold answerTakeNotices
  split <;> rfl

/-- No request's answer looks at the receiver or at a reset in progress. -/
theorem handler_framed (k : RequestKind) : handler k body (s.framed x) = (handler k body s).framed x := by
  cases k with
  | identify => exact answerIdentify_framed s x body
  | commission => exact answerCommission_framed s x body
  | restart => exact answerRestart_framed s x body
  | setPort => exact answerSetPort_framed s x body
  | setGrades => exact answerSetGrades_framed s x body
  | setTiming => exact answerSetTiming_framed s x body
  | setSupply => exact answerSetSupply_framed s x body
  | setWindow => exact answerSetWindow_framed s x body
  | selectProfile => exact answerSelectProfile_framed s x body
  | portCommand => exact answerPortCommand_framed s x body
  | shedTo => exact answerShedTo_framed s x body
  | readPort => exact answerReadPort_framed s x body
  | readLedger => exact answerReadLedger_framed s x body
  | readQueue => exact answerReadQueue_framed s x body
  | readStack => exact answerReadStack_framed s x body
  | readGap => exact answerReadGap_framed s x body
  | takeNotices => exact answerTakeNotices_framed s x body

end

end Sys2Proof.Machine
end

section
/-! PROOFS. A request's command and the bytes of its frame (R154, R155; log entry 5). -/

namespace Sys2Proof.Machine

/-! ### A frame taken in another frame of the receiver -/

section
variable {s : State} {x : Framing}

theorem framed_self (s : State) : s.framed ⟨s.line.receiver, s.line.buffer, s.line.byteGap, s.unit.inReset⟩ = s := rfl

theorem awake_handler (hs : s.awake) (k : RequestKind) (body : List Byte) : (handler k body s).state.awake := by
  have h := handler_framed s ⟨s.line.receiver, s.line.buffer, s.line.byteGap, s.unit.inReset⟩ body k
  rw [framed_self] at h
  exact (congrArg (fun a : Answer => a.state.unit.inReset) h).trans hs

theorem awake_answerKind (hs : s.awake) (kind : Byte) (body : List Byte) : (answerKind kind body s).state.awake := by
  unfold answerKind
  split
  · exact awake_handler hs _ body
  · exact hs

theorem answerKind_framed (s : State) (x : Framing) (kind : Byte) (body : List Byte) :
    answerKind kind body (s.framed x) = (answerKind kind body s).framed x := by
  unfold answerKind
  split
  · exact handler_framed s x body _
  · rfl

/-- Between resets a state in another frame differs in the receiver alone. -/
theorem unit_framed (hs : s.awake) (hx : x.inReset = none) : (s.framed x).unit = s.unit := by
  show { s.unit with inReset := x.inReset } = s.unit
  rw [hx, ← hs]

theorem withReply_framed (hs : s.awake) (hx : x.inReset = none) (kind : Byte) (st : Status) (content : List Byte) :
    (s.framed x).withReply kind st content = s.withReply kind st content :=
  congrArg (fun u => { s.withReply kind st content with unit := u }) (unit_framed hs hx)

theorem hunt_framed (hs : s.awake) (hx : x.inReset = none) : (s.framed x).hunt = s.hunt :=
  congrArg (fun u => { s.hunt with unit := u }) (unit_framed hs hx)

theorem takeOwn_framed (hs : s.awake) (hx : x.inReset = none) (kind : Byte) (body : List Byte) :
    (s.framed x).takeOwn kind body = s.takeOwn kind body := by
  unfold State.takeOwn
  rw [answerKind_framed]
  exact withReply_framed (awake_answerKind hs kind body) hx _ _ _

theorem takeBroadcast_framed (hs : s.awake) (hx : x.inReset = none) (k : RequestKind) (body : List Byte) :
    (s.framed x).takeBroadcast k body = s.takeBroadcast k body := by
  have hhunt : ((handler k body s).framed x).state.hunt = (handler k body s).state.hunt := hunt_framed (awake_handler hs k body) hx
  unfold State.takeBroadcast
  rw [handler_framed, hhunt]

/-- What a good frame does depends on no more of the receiver than that it has come (R157). -/
theorem goodFrame_framed (hs : s.awake) (hx : x.inReset = none) (addr kind : Byte) (body : List Byte) :
    (s.framed x).goodFrame addr kind body = s.goodFrame addr kind body := by
  unfold State.goodFrame
  simp only [unit_framed hs hx, takeOwn_framed hs hx, takeBroadcast_framed hs hx, hunt_framed hs hx]

end

/-! ### Between resets -/

section
variable {s : State}

theorem awake_endReset (s : State) (c : ResetCause) (y : Straps) : (s.endReset c y).awake := by
  unfold State.awake State.endReset
  rw [post_unit]
  rfl

theorem awake_takeBroadcast (hs : s.awake) (k : RequestKind) (body : List Byte) : (s.takeBroadcast k body).awake := by
  unfold State.takeBroadcast
  dsimp only
  split
  · exact awake_endReset _ _ _
  · exact awake_handler hs k body

theorem awake_goodFrame (hs : s.awake) (addr kind : Byte) (body : List Byte) : (s.goodFrame addr kind body).awake := by
  unfold State.goodFrame
  split
  · exact awake_answerKind hs kind body
  · split
    · split
      · split
        · exact awake_takeBroadcast hs _ body
        · exact hs
      · exact hs
    · exact hs

theorem awake_examine (hs : s.awake) : s.examine.awake := by
  unfold State.examine
  split
  · split
    · exact hs
    · split
      · dsimp only
        unfold State.checkFrame
        split
        · exact awake_goodFrame hs _ _ _
        · exact hs
      · exact hs
  · exact hs

/-- No byte begins a reset that lasts (R172; log entry 8). -/
theorem awake_takeByte (hs : s.awake) (b : Byte) (fe : Bool) : (s.takeByte b fe).awake := by
  unfold State.takeByte
  split
  · split <;> exact hs
  · split
    · exact hs
    · exact awake_examine hs
  · exact hs

end

/-! ### Bytes taken one after another -/

/-- Between resets, bytes as commands are bytes taken one after another (R154). -/
theorem taking_bytes (l : List Byte) : ∀ {s : State}, s.awake → taking (l.map fun b => .lineByte b false) s = .next (s.takeBytes l) := by
  induction l with
  | nil => exact fun _ => rfl
  | cons b l ih =>
    intro s hs
    have hbyte : exec (.lineByte b false) s = .next (s.takeByte b false) := taken_awake hs _
    rw [List.map_cons, taking, hbyte]
    exact ih (awake_takeByte hs b false)

theorem takeBytes_append (s : State) (l m : List Byte) : s.takeBytes (l ++ m) = (s.takeBytes l).takeBytes m := List.foldl_append

theorem takeBytes_closed {s : State} (h : s.line.receiver = .closed) (l : List Byte) : s.takeBytes l = s := by
  induction l with
  | nil => rfl
  | cons b l ih => exact (congrArg (State.takeBytes · l) (takeByte_closed h b false)).trans ih

/-- The receiver between resets as it collects, with these bytes of a frame taken (R154). -/
def State.collected (s : State) (l : List Byte) : State := s.framed ⟨.collecting, l, .running 5, none⟩

section
variable {s : State}

theorem takeByte_sync (hs : s.awake) (h : s.line.receiver = .hunting) : s.takeByte syncByte false = s.collected [] := by
  rw [takeByte_hunting h, if_pos ⟨rfl, rfl⟩]
  exact congrArg (fun u => { s.collected [] with unit := u }) (unit_framed (x := ⟨.collecting, [], .running 5, none⟩) hs rfl).symm

/-- A byte that leaves the frame without its last one joins it (R154). -/
theorem takeByte_collected (l : List Byte) (b : Byte) : (s.collected l).takeByte b false = (s.collected (l ++ [b])).examine :=
  takeByte_joined rfl b

/-- The first bytes of a frame ask for more (R154). -/
theorem examine_collected {addr kind len : Byte} {rest l : List Byte} (hlen : len.toNat ≤ 200) (hrest : rest.length = len.toNat + 2)
    (hl : l <+: addr :: kind :: len :: rest) (hlt : l.length < rest.length + 3) : (s.collected l).examine = s.collected l := by
  by_cases hshort : l.length < 3
  · exact examine_header hshort
  · match l, hl, hshort, hlt with
    | [], _, hshort, _ | [_], _, hshort, _ | [_, _], _, hshort, _ => simp at hshort
    | a :: k :: n :: r, hl, _, hlt =>
      obtain ⟨tail, htail⟩ := hl
      simp only [List.cons_append, List.cons.injEq] at htail
      obtain ⟨-, -, rfl, -⟩ := htail
      refine examine_part rfl hlen ?_
      simp only [List.length_cons] at hlt
      omega

/-- The bytes of a frame but for the last are collected (R154). -/
theorem takeBytes_collected {addr kind len : Byte} {rest : List Byte} (hlen : len.toNat ≤ 200) (hrest : rest.length = len.toNat + 2) (i : Nat)
    (hi : i < rest.length + 3) : (s.collected []).takeBytes ((addr :: kind :: len :: rest).take i) = s.collected ((addr :: kind :: len :: rest).take i) := by
  induction i with
  | zero => rfl
  | succ i ih =>
    have hlt : i < (addr :: kind :: len :: rest).length := by
      simp only [List.length_cons]
      omega
    have htake := List.take_succ_eq_append_getElem hlt
    have hstep : (s.collected []).takeBytes ((addr :: kind :: len :: rest).take (i + 1)) =
        (s.collected ((addr :: kind :: len :: rest).take (i + 1))).examine := by
      rw [htake, takeBytes_append, ih (by omega)]
      exact takeByte_collected _ _
    rw [hstep]
    refine examine_collected hlen hrest (List.take_prefix _ _) ?_
    rw [List.length_take]
    omega

/-- A hunting receiver acts on a whole frame as it takes the last of its bytes (R154, R155). -/
theorem takeBytes_frame (hs : s.awake) (h : s.line.receiver = .hunting) (addr kind : Byte) {body : List Byte} (hb : body.length ≤ 200) :
    s.takeBytes (syncByte :: frameAfterSync addr kind body (crc16 (frameCore addr kind body))) = s.goodFrame addr kind body := by
  obtain ⟨low, high, hcrc, hcode⟩ : ∃ low high, field16 (crc16 (frameCore addr kind body)).toNat = [low, high]
      ∧ BitVec.ofNat 16 (low.toNat + 256 * high.toNat) = crc16 (frameCore addr kind body) :=
    ⟨_, _, rfl, (ofNat_crcBytes_eq_iff _ _ _).mpr (bytes16 (BitVec.isLt _))⟩
  have hlen : (byteOf body.length).toNat = body.length := byteOf_toNat (by omega)
  have htake : (addr :: kind :: byteOf body.length :: (body ++ [low, high])).take (body.length + 4) =
      addr :: kind :: byteOf body.length :: (body ++ [low]) := by
    simp [List.take_append]
  have hframe : frameAfterSync addr kind body (crc16 (frameCore addr kind body)) =
      (addr :: kind :: byteOf body.length :: (body ++ [low])) ++ [high] := by
    unfold frameAfterSync
    rw [hcrc, frameCore_eq]
    simp
  have hcollected := takeBytes_collected (s := s) (addr := addr) (kind := kind) (len := byteOf body.length) (rest := body ++ [low, high])
    (by omega) (by simp [hlen]) (body.length + 4) (by simp)
  have hsync : s.takeBytes (syncByte :: frameAfterSync addr kind body (crc16 (frameCore addr kind body))) =
      (s.collected []).takeBytes (frameAfterSync addr kind body (crc16 (frameCore addr kind body))) :=
    congrArg (State.takeBytes · _) (takeByte_sync hs h)
  rw [htake] at hcollected
  rw [hsync, hframe, takeBytes_append, hcollected]
  show (s.collected (addr :: kind :: byteOf body.length :: (body ++ [low]))).takeByte high false = _
  rw [takeByte_collected, examine_whole (s := s.collected _) hb (show _ ++ [high] = addr :: kind :: byteOf body.length :: (body ++ [low, high]) by simp), hcode,
    checkFrame_good]
  exact goodFrame_framed hs rfl addr kind body

end

/-- Settles O8: the handlers do not look at the receiver, so that the frame is acted on as its last byte is taken. -/
theorem requestIsTheBytesOfItsFrame : Obligations.RequestIsTheBytesOfItsFrame := by
  intro c d k body s hc hs hb
  rw [taking_bytes _ hs, exec_request hc, unlessReset_awake hs]
  refine congrArg _ ?_
  show _ = s.arrive (s.addressOf d) (kindCode k) body _
  cases hr : s.line.receiver with
  | closed => rw [takeBytes_closed hr, arrive_closed hr]
  | hunting => rw [takeBytes_frame hs hr _ _ hb, arrive_hunting hr hb, checkFrame_good]
  | collecting =>
    unfold State.arrive
    rw [hr]

end Sys2Proof.Machine
end
